-- ==== Sys2Proof/Word.lean ====
section
/-! DEFINITION. The byte, the word and the offset: the three widths of CORE (00_scope.md R8, R9).
No value in CORE is signed (R9). -/

namespace Sys2Proof

/-- An unsigned 8-bit value (R9). -/
abbrev Byte := BitVec 8

/-- An unsigned 32-bit value (R9), the width of every register and of the bus data (R8). -/
abbrev Word := BitVec 32

/-- A byte offset within the 256-byte register window, `bus_addr[7:0]` (20_memory.md R72). -/
abbrev Offset := BitVec 8

/-- The state matrix `s[r][c]`, row `r` first and then column `c` (00_scope.md R12, 10_state.md R36). -/
abbrev Block := Vector (Vector Byte 4) 4

/-- The round-key store `W[0..59]`, sixty independent words (10_state.md R41). -/
abbrev Store := Vector Word 60

end Sys2Proof
end

