-- ==== Sys2Proof/Syntax.lean ====
section
/-! DEFINITION. The commands of CORE: one constructor per row of spec/opcode_table.json, in the order
of the opcode map (30_encoding.md R104). -/

namespace Sys2Proof

/-- A command with its operand. The byte operand of format I is the bits `cmd[7:0]` used as they are
(R102); the index of RCON and the round of ADDRK are counts (43_rcon.md R173, 30_encoding.md R103),
whose range `WellFormed` checks. -/
inductive Instr where
  | xtime (b : Byte)
  | gmul3 (b : Byte)
  | gmul9 (b : Byte)
  | gmul11 (b : Byte)
  | gmul13 (b : Byte)
  | gmul14 (b : Byte)
  | sbox (x : Byte)
  | isbox (y : Byte)
  | rcon (n : Nat)
  | rotword
  | subword
  | expand
  | addrk (r : Nat)
  | subbytes
  | invsubbytes
  | shiftrows
  | invshiftrows
  | mixcolumns
  | invmixcolumns
  | encrypt
  | decrypt
deriving DecidableEq, Repr

end Sys2Proof
end

