-- ==== Sys2Proof/WellFormed.lean ====
section
/-! DEFINITION. Which commands can be assembled: the operand ranges of 30_encoding.md R108
("An operand out of range is an assembly error, not a command"). -/

namespace Sys2Proof

/-- The operand is in the range its format admits: a byte operand always is, the index of RCON is
0..255 (43_rcon.md R173) and the round of ADDRK is 0..15 (30_encoding.md R103). -/
def WellFormed : Instr → Bool
  | .xtime _ => true
  | .gmul3 _ => true
  | .gmul9 _ => true
  | .gmul11 _ => true
  | .gmul13 _ => true
  | .gmul14 _ => true
  | .sbox _ => true
  | .isbox _ => true
  | .rcon n => decide (n ≤ 255)
  | .rotword => true
  | .subword => true
  | .expand => true
  | .addrk r => decide (r ≤ 15)
  | .subbytes => true
  | .invsubbytes => true
  | .shiftrows => true
  | .invshiftrows => true
  | .mixcolumns => true
  | .invmixcolumns => true
  | .encrypt => true
  | .decrypt => true

end Sys2Proof
end

