-- ==== Sys2Proof/Decode.lean ====
section
/-! DEFINITION. Decoding a command word and encoding a command (30_encoding.md R100 to R108). -/

namespace Sys2Proof

/-- Why a word is no command (R106): its opcode is not in the map of R104, or a reserved bit is set. -/
inductive IllegalWord where
  | unassignedOpcode
  | reservedBits
deriving DecidableEq, Repr

/-- What decoding answers for a word: a command, or the reason it is illegal. -/
inductive Decoded where
  | command (i : Instr)
  | illegal (why : IllegalWord)
deriving DecidableEq, Repr

/-- OPC = cmd[31:24] (R100). -/
def opcField (v : Word) : Byte := v.extractLsb' 24 8

/-- IMM8 = cmd[7:0] (R102). -/
def imm8Field (v : Word) : Byte := v.extractLsb' 0 8

/-- RND = cmd[3:0] (R103). -/
def rndField (v : Word) : BitVec 4 := v.extractLsb' 0 4

/-- Format N (R101): cmd[23:0] must be zero. -/
def formatN (v : Word) (i : Instr) : Decoded :=
  if v.extractLsb' 0 24 = 0#24 then .command i else .illegal .reservedBits

/-- Format I (R102): cmd[23:8] must be zero, and the operand is IMM8. -/
def formatI (v : Word) (i : Byte → Instr) : Decoded :=
  if v.extractLsb' 8 16 = 0#16 then .command (i (imm8Field v)) else .illegal .reservedBits

/-- Format R (R103): cmd[23:4] must be zero, and the operand is RND. -/
def formatR (v : Word) (i : BitVec 4 → Instr) : Decoded :=
  if v.extractLsb' 4 20 = 0#20 then .command (i (rndField v)) else .illegal .reservedBits

/-- The opcode map of R104, by the procedure of R105. Total over all 2^32 words. -/
def decode (v : Word) : Decoded :=
  match opcField v with
  | 0x10#8 => formatI v .xtime
  | 0x11#8 => formatI v .gmul3
  | 0x12#8 => formatI v .gmul9
  | 0x13#8 => formatI v .gmul11
  | 0x14#8 => formatI v .gmul13
  | 0x15#8 => formatI v .gmul14
  | 0x20#8 => formatI v .sbox
  | 0x21#8 => formatI v .isbox
  | 0x30#8 => formatI v fun n => .rcon n.toNat
  | 0x40#8 => formatN v .rotword
  | 0x41#8 => formatN v .subword
  | 0x42#8 => formatN v .expand
  | 0x50#8 => formatR v fun r => .addrk r.toNat
  | 0x51#8 => formatN v .subbytes
  | 0x52#8 => formatN v .invsubbytes
  | 0x53#8 => formatN v .shiftrows
  | 0x54#8 => formatN v .invshiftrows
  | 0x55#8 => formatN v .mixcolumns
  | 0x56#8 => formatN v .invmixcolumns
  | 0x60#8 => formatN v .encrypt
  | 0x61#8 => formatN v .decrypt
  | _ => .illegal .unassignedOpcode

/-- The word `OPC<<24 | x` (R108), the operand `x` being at most 24 bits wide. -/
def commandWord (opc : Byte) (x : BitVec 24) : Word := opc ++ x

/-- `encode(m, x) = OPC(m)<<24 | x`, with `x = 0` for format N (R108). -/
def encode : Instr → Word
  | .xtime b => commandWord 0x10#8 (b.setWidth 24)
  | .gmul3 b => commandWord 0x11#8 (b.setWidth 24)
  | .gmul9 b => commandWord 0x12#8 (b.setWidth 24)
  | .gmul11 b => commandWord 0x13#8 (b.setWidth 24)
  | .gmul13 b => commandWord 0x14#8 (b.setWidth 24)
  | .gmul14 b => commandWord 0x15#8 (b.setWidth 24)
  | .sbox x => commandWord 0x20#8 (x.setWidth 24)
  | .isbox y => commandWord 0x21#8 (y.setWidth 24)
  | .rcon n => commandWord 0x30#8 (BitVec.ofNat 24 n)
  | .rotword => commandWord 0x40#8 0#24
  | .subword => commandWord 0x41#8 0#24
  | .expand => commandWord 0x42#8 0#24
  | .addrk r => commandWord 0x50#8 (BitVec.ofNat 24 r)
  | .subbytes => commandWord 0x51#8 0#24
  | .invsubbytes => commandWord 0x52#8 0#24
  | .shiftrows => commandWord 0x53#8 0#24
  | .invshiftrows => commandWord 0x54#8 0#24
  | .mixcolumns => commandWord 0x55#8 0#24
  | .invmixcolumns => commandWord 0x56#8 0#24
  | .encrypt => commandWord 0x60#8 0#24
  | .decrypt => commandWord 0x61#8 0#24

/-- The command the decoder reads from the word `w` of `nbits` bits, numbered as
spec/opcode_table.json numbers them; bits above `nbits` are 0, and a command has 32 bits (R107).
CORE receives the word whole on `bus_wdata` (20_memory.md R80, R81), so no byte order enters. -/
def decodeTableWord (nbits w : Nat) : Option Instr :=
  match decode (BitVec.ofNat 32 (w % 2 ^ nbits)) with
  | .command i => some i
  | .illegal _ => none

end Sys2Proof
end

