-- ==== Sys2Proof/Bus.lean ====
section
/-! DEFINITION. What passes between CORE and the outside world, as plain data: transfers, their
responses, the host's events, and the pins of the port (20_memory.md R70, R71, R73). -/

namespace Sys2Proof

/-- The four values of `bus_size` (R70): 0 byte, 1 halfword, 2 word, 3 reserved. -/
inductive AccessSize where
  | byte
  | half
  | word
  | reserved
deriving DecidableEq, Repr

/-- The registers of the map of R73, by name. -/
inductive Reg where
  | cmd
  | status
  | keyLen
  | blkLen
  | key (j : Fin 8)
  | state (c : Fin 4)
  | opw
  | result
  | rkSel
  | rkOut (c : Fin 4)
deriving DecidableEq, Repr

/-- One transfer, as the model sees it (R71): `Read(off, size)` or `Write(off, size, data)`.
The data is what stands on the 32 lines of `bus_wdata`, whatever the size. -/
inductive Transfer where
  | read (off : Offset) (size : AccessSize)
  | write (off : Offset) (size : AccessSize) (data : Word)
deriving DecidableEq, Repr

/-- The response that ends a transfer (R71): `OKAY(data)` to a read, `OKAY` to a write, `ERROR`. -/
inductive Response where
  | okayData (data : Word)
  | okay
  | error
deriving DecidableEq, Repr

/-- What the host does to CORE, one event per step.
`resetDuring t` is a reset that falls between the start of `t` and its acknowledgement
(70_reset_and_hazards.md R290). -/
inductive HostEvent where
  | bus (t : Transfer)
  | reset
  | resetDuring (t : Transfer)
deriving DecidableEq, Repr

/-- The input pins of R70 as sampled at one rising edge of `clk`. -/
structure PortIn where
  rstN  : Bool
  req   : Bool
  we    : Bool
  addr  : BitVec 8
  size  : BitVec 2
  wdata : Word
deriving DecidableEq, Repr

/-- The output pins of R70 at one rising edge of `clk`. -/
structure PortOut where
  ack   : Bool
  err   : Bool
  rdata : Word
deriving DecidableEq, Repr

end Sys2Proof
end

