-- ==== Sys2Proof/Config.lean ====
section
/-! DEFINITION. What the spec fixes for the implementation, its closed enumerations, and the free
values: what the spec leaves open, as constants without a body. -/

namespace Sys2Proof

/-- The key-size variant, a closed enumeration (00_scope.md R3). -/
inductive Variant where
  | aes128
  | aes192
  | aes256
deriving DecidableEq, Repr

/-- The command errors (60_exceptions.md R261); code 0, success, is none of them. -/
inductive CmdError where
  | invalidKeyLength
  | invalidBlockLength
  | illegalCommand
  | scheduleNotValid
  | roundOutOfRange
deriving DecidableEq, Repr

namespace Config

/-- The size of the register window in bytes (00_scope.md R8, 20_memory.md R72). -/
def windowBytes : Nat := 256

/-- The only legal block length (10_state.md R35). -/
def blockBytes : Byte := 16#8

/-- The offset the platform's address decoder hands to CORE for a host address, or `none` where it
does not select CORE (20_memory.md R72). `coreBase` is the OPEN parameter CORE_BASE, an argument.
DEDUCED (log entry 6): the offset is the distance from CORE_BASE. -/
def offsetAt (coreBase addr : Nat) : Option Offset :=
  if coreBase ≤ addr ∧ addr < coreBase + windowBytes then
    some (BitVec.ofNat 8 (addr - coreBase))
  else none

/-- FREE VALUE (log entry 4). The response, if any, that the host sees for a transfer cut short by
reset: "any value" (93_implementation_defined.md). -/
opaque abandonedResponse : Nat → Option Response

/-- FREE VALUE (log entry 5). `bus_err` at an edge where `bus_ack` is 0: R70 does not state it. -/
opaque undrivenErr : Nat → Bool

/-- FREE VALUE (log entry 5). `bus_rdata` at an edge where no read is answered: R70 does not state it. -/
opaque undrivenRdata : Nat → Word

/-- FREE VALUE (log entry 7). What stands for a word `W[i]` with `i > 59`, which does not exist: only a
state with NR > 14, which no run reaches, asks for it. -/
opaque absentWord : Nat → Word

end Config

end Sys2Proof
end

