-- ==== Sys2Proof/Machine/State.lean ====
section
/-! DEFINITION. The state of CORE as plain data (10_state.md R30), its reset values (R51), and the
reasons a step can stop. -/

namespace Sys2Proof.Machine

/-- Why the machine stops. Nothing the spec describes stops CORE: a command error writes ERRCODE
(60_exceptions.md R262) and a bus error is a response (R264), and after either the host goes on
(R270). So this type has no constructor: no one raises a fault (log entry 10, safe). -/
inductive Fault where
deriving DecidableEq, Repr

/-- Why an instruction has no meaning. -/
inductive Refusal where
  /-- Raised by `exec` for a command that has no meaning yet; safe. No arm raises it. -/
  | notModelled (mnemonic : String)
deriving DecidableEq, Repr

/-- Everything CORE holds (10_state.md R30, "exactly the items in the table"), and after it the model's
own three fields: what the host does next, what the port answered last, and how many free values have
been taken (log entries 1, 2 and 4). -/
structure State where
  /-- KEY[0..7] (R33). -/
  key       : Vector Word 8
  /-- KEYLEN (R34). -/
  keyLen    : Byte
  /-- BLKLEN (R35). -/
  blkLen    : Byte
  /-- The state matrix s[r][c] (R36). -/
  block     : Block
  /-- OPW (R39). -/
  opw       : Word
  /-- RESULT (R40). -/
  result    : Word
  /-- W[0..59] (R41). -/
  w         : Store
  /-- RKSEL (R43). -/
  rkSel     : BitVec 4
  /-- SV (R46). -/
  sv        : Bool
  /-- VARIANT (R45). -/
  variant   : BitVec 2
  /-- NK (R45). -/
  nk        : BitVec 4
  /-- NR (R45). -/
  nr        : BitVec 4
  /-- ERRCODE (R47). -/
  errCode   : BitVec 4
  /-- The model's own: the host's events not yet served, oldest first (R32, 20_memory.md R86). -/
  pending   : List HostEvent
  /-- The model's own: the port's answer to the last event, `none` where it answered nothing. -/
  response  : Option Response
  /-- The model's own: how many free values have been taken. -/
  freeCount : Nat
deriving DecidableEq, Repr

/-- The machine right after reset (R51): every register zero. The host has asked nothing yet
(log entries 1, 2 and 4). -/
def State.reset : State where
  key       := #v[0, 0, 0, 0, 0, 0, 0, 0]
  keyLen    := 0
  blkLen    := 0
  block     := #v[#v[0, 0, 0, 0], #v[0, 0, 0, 0], #v[0, 0, 0, 0], #v[0, 0, 0, 0]]
  opw       := 0
  result    := 0
  w         := Vector.replicate 60 0
  rkSel     := 0
  sv        := false
  variant   := 0
  nk        := 0
  nr        := 0
  errCode   := 0
  pending   := []
  response  := none
  freeCount := 0

/-- The three outcomes of a step or of a command. -/
abbrev Result := Host.Outcome State Fault Refusal

end Sys2Proof.Machine
end

