-- ==== Sys2Proof/Machine/Flags.lean ====
section
/-! DEFINITION. The status fields: the error codes (60_exceptions.md R261), the variant table
(10_state.md R45, 44_key_schedule.md R180) and the STATUS word (10_state.md R44). CORE has no
arithmetic condition codes (10_state.md R48). -/

namespace Sys2Proof

/-- The ERRCODE of a command error (60_exceptions.md R261). -/
def CmdError.code : CmdError → BitVec 4
  | .invalidKeyLength => 1
  | .invalidBlockLength => 2
  | .illegalCommand => 3
  | .scheduleNotValid => 4
  | .roundOutOfRange => 5

/-- The key length of a variant in 32-bit words (00_scope.md R3). -/
def Variant.nk : Variant → Nat
  | .aes128 => 4
  | .aes192 => 6
  | .aes256 => 8

/-- The number of rounds of a variant (00_scope.md R3). -/
def Variant.nr : Variant → Nat
  | .aes128 => 10
  | .aes192 => 12
  | .aes256 => 14

/-- The value of the VARIANT field (10_state.md R45); 0 is "none". -/
def Variant.code : Variant → BitVec 2
  | .aes128 => 1
  | .aes192 => 2
  | .aes256 => 3

/-- `select(KEYLEN)` (44_key_schedule.md R180); `none` is its failure, InvalidKeyLength. -/
def selectVariant (keyLen : Byte) : Option Variant :=
  if keyLen = 16#8 then some .aes128
  else if keyLen = 24#8 then some .aes192
  else if keyLen = 32#8 then some .aes256
  else none

namespace Machine

/-- `STATUS = zext_32(SV) | ERRCODE<<4 | VARIANT<<8 | NR<<16 | NK<<24` (10_state.md R44). -/
def statusWord (s : State) : Word :=
  (if s.sv then 1#32 else 0#32) ||| s.errCode.setWidth 32 <<< 4 ||| s.variant.setWidth 32 <<< 8
    ||| s.nr.setWidth 32 <<< 16 ||| s.nk.setWidth 32 <<< 24

end Machine

end Sys2Proof
end

