-- ==== Sys2Proof/Machine/Operands.lean ====
section
/-! DEFINITION. The forms operands take: words as byte sequences (00_scope.md R11), the state matrix by
entry and by column (10_state.md R36 to R38), words of the round-key store, byte results (R40), and the
offsets of the registers (20_memory.md R73). -/

namespace Sys2Proof

/-- `word(a0,a1,a2,a3) = a0<<24 | a1<<16 | a2<<8 | a3` (00_scope.md R11): a0 in bits 31:24. -/
def wordOf (a0 a1 a2 a3 : Byte) : Word := a0 ++ a1 ++ a2 ++ a3

/-- `bytes(w)[j]` (00_scope.md R11): byte 0 is w[31:24] and byte 3 is w[7:0]. -/
def byteOf (w : Word) : Fin 4 → Byte
  | 0 => w.extractLsb' 24 8
  | 1 => w.extractLsb' 16 8
  | 2 => w.extractLsb' 8 8
  | 3 => w.extractLsb' 0 8

/-- `zext_32` of a byte (00_scope.md R10), the form of a byte result (10_state.md R40). -/
def zextByte (b : Byte) : Word := b.setWidth 32

namespace Block

/-- The matrix whose entry in row r and column c is `f r c`. -/
def build (f : Fin 4 → Fin 4 → Byte) : Block :=
  #v[#v[f 0 0, f 0 1, f 0 2, f 0 3],
     #v[f 1 0, f 1 1, f 1 2, f 1 3],
     #v[f 2 0, f 2 1, f 2 2, f 2 3],
     #v[f 3 0, f 3 1, f 3 2, f 3 3]]

/-- The entry s[r][c] (00_scope.md R12). -/
def entry (s : Block) (r c : Fin 4) : Byte := s[r][c]

/-- `STATE[c] = word(s[0][c], s[1][c], s[2][c], s[3][c])` (10_state.md R38). -/
def column (s : Block) (c : Fin 4) : Word :=
  wordOf (entry s 0 c) (entry s 1 c) (entry s 2 c) (entry s 3 c)

/-- Writing STATE[c] sets s[0..3][c] to bytes(v)[0..3] (10_state.md R38). -/
def setColumn (s : Block) (c : Fin 4) (v : Word) : Block :=
  build fun r c' => if c' = c then byteOf v r else entry s r c'

/-- The matrix whose columns, as register words, are the four given. -/
def ofColumns (c0 c1 c2 c3 : Word) : Block :=
  build fun r c =>
    match c with
    | 0 => byteOf c0 r
    | 1 => byteOf c1 r
    | 2 => byteOf c2 r
    | 3 => byteOf c3 r

/-- Block byte i is s[i mod 4][i div 4] (10_state.md R37). -/
def blockByte (s : Block) (i : Fin 16) : Byte :=
  entry s ⟨i.val % 4, by omega⟩ ⟨i.val / 4, by omega⟩

end Block

/-- The word W[i] of the store (00_scope.md R12); past the store, a free value (log entry 7). -/
def storeWord (w : Store) (i : Nat) : Word :=
  if h : i < 60 then w[i] else Config.absentWord i

/-- The store whose word i is `f i`. -/
def buildStore (f : Nat → Word) : Store := Vector.ofFn fun i => f i.val

/-- RK[r] as a state-shaped matrix: byte j of W[4r+c] stands in row j of column c
(44_key_schedule.md R185). -/
def roundKey (w : Store) (r : Nat) : Block :=
  Block.build fun j c => byteOf (storeWord w (4 * r + c.val)) j

/-- Offsets 0x00 to 0x2C of the register map (20_memory.md R73). -/
def lowMap : List (Offset × Reg) :=
  [(0x00, .cmd), (0x04, .status), (0x08, .keyLen), (0x0C, .blkLen),
   (0x10, .key 0), (0x14, .key 1), (0x18, .key 2), (0x1C, .key 3),
   (0x20, .key 4), (0x24, .key 5), (0x28, .key 6), (0x2C, .key 7)]

/-- Offsets 0x30 to 0x5C of the register map (20_memory.md R73); 0x4C is unmapped. -/
def highMap : List (Offset × Reg) :=
  [(0x30, .state 0), (0x34, .state 1), (0x38, .state 2), (0x3C, .state 3),
   (0x40, .opw), (0x44, .result), (0x48, .rkSel),
   (0x50, .rkOut 0), (0x54, .rkOut 1), (0x58, .rkOut 2), (0x5C, .rkOut 3)]

/-- The register at an offset, `none` where the offset is unmapped (20_memory.md R73). -/
def regAt (off : Offset) : Option Reg := (lowMap ++ highMap).lookup off

/-- The offset of a register (20_memory.md R73), as the assembler names it (30_encoding.md R109). -/
def regOffset : Reg → Offset
  | .cmd => 0x00
  | .status => 0x04
  | .keyLen => 0x08
  | .blkLen => 0x0C
  | .key j => BitVec.ofNat 8 (0x10 + 4 * j.val)
  | .state c => BitVec.ofNat 8 (0x30 + 4 * c.val)
  | .opw => 0x40
  | .result => 0x44
  | .rkSel => 0x48
  | .rkOut c => BitVec.ofNat 8 (0x50 + 4 * c.val)

/-- `bus_size` as the pins carry it (20_memory.md R70). -/
def sizeOfPins (b : BitVec 2) : AccessSize :=
  match b with
  | 0 => .byte
  | 1 => .half
  | 2 => .word
  | 3 => .reserved

/-- The inverse of `sizeOfPins`. -/
def pinsOfSize : AccessSize → BitVec 2
  | .byte => 0
  | .half => 1
  | .word => 2
  | .reserved => 3

end Sys2Proof
end

