-- ==== Sys2Proof/Machine/Ops.lean ====
section
/-! DEFINITION. The named operations over the state that the commands and the bus share. Every write of
a register goes through one of these. -/

namespace Sys2Proof.Machine

namespace State

/-- `KEY[j] <- v`. -/
def setKey (j : Fin 8) (v : Word) (s : State) : State := { s with key := s.key.set j v }

/-- `KEYLEN <- v`. -/
def setKeyLen (v : Byte) (s : State) : State := { s with keyLen := v }

/-- `BLKLEN <- v`. -/
def setBlkLen (v : Byte) (s : State) : State := { s with blkLen := v }

/-- `s <- b`, the whole state matrix at once (00_scope.md R14). -/
def setBlock (b : Block) (s : State) : State := { s with block := b }

/-- `OPW <- v`. -/
def setOpw (v : Word) (s : State) : State := { s with opw := v }

/-- `RESULT <- v`. -/
def setResult (v : Word) (s : State) : State := { s with result := v }

/-- `RKSEL <- v`. -/
def setRkSel (v : BitVec 4) (s : State) : State := { s with rkSel := v }

/-- `ERRCODE <- c`. -/
def setErrCode (c : BitVec 4) (s : State) : State := { s with errCode := c }

/-- `W <- w; VARIANT <- var; NK <- Nk; NR <- Nr; SV <- 1` (44_key_schedule.md R190). -/
def setSchedule (v : Variant) (w : Store) (s : State) : State :=
  { s with
    w := w
    sv := true
    variant := v.code
    nk := BitVec.ofNat 4 v.nk
    nr := BitVec.ofNat 4 v.nr }

/-- `invalidate()`: `SV <- 0, VARIANT <- 0, NK <- 0, NR <- 0` (20_memory.md R79). -/
def invalidate (s : State) : State := { s with sv := false, variant := 0, nk := 0, nr := 0 }

/-- The host's events still to be served. -/
def setPending (l : List HostEvent) (s : State) : State := { s with pending := l }

/-- The port's answer to the event just served (20_memory.md R70). -/
def respond (r : Option Response) (s : State) : State := { s with response := r }

/-- Takes a free value: the next one is another. -/
def takeFree (s : State) : State := { s with freeCount := s.freeCount + 1 }

/-- Every piece of the spec's state at its reset value (10_state.md R51, 70_reset_and_hazards.md R290);
the host's remaining events and the count of free values are not CORE's and stay. -/
def resetRegisters (s : State) : State :=
  { State.reset with pending := s.pending, response := s.response, freeCount := s.freeCount }

end State

/-- A command that succeeds writes `ERRCODE <- 0` with its other effects (60_exceptions.md R263). -/
def succeed (s : State) : State := s.setErrCode 0

/-- `raise CmdError(code)`, the whole of CORE's trap entry (60_exceptions.md R262, R269): ERRCODE
receives the code, and nothing else is saved or changed. There is no return from it (R270): the next
command starts from the state this leaves. -/
def raiseCmdError (e : CmdError) (s : State) : Result := .next (s.setErrCode e.code)

/-- A scalar command: `RESULT <- v; ERRCODE <- 0`. -/
def scalar (v : Word) (s : State) : Result := .next (succeed (s.setResult v))

/-- A state transform: `s <- f(s); ERRCODE <- 0`, the whole old state read before the new one is
written (00_scope.md R14). -/
def transform (f : Block → Block) (s : State) : Result := .next (succeed (s.setBlock (f s.block)))

/-- Continues a result that is a next state. -/
def onNext (o : Result) (f : State → State) : Result :=
  match o with
  | .next s => .next (f s)
  | .fault r => .fault r
  | .refused r => .refused r

end Sys2Proof.Machine
end

