-- ==== Sys2Proof/Machine/Galois.lean ====
section
/-! DEFINITION. The Galois-field arithmetic engine (41_galois.md): xtime, the multipliers built from it
(R131 to R137), and the six commands that write their value to RESULT (R139 to R144). -/

namespace Sys2Proof

/-- xtime (41_galois.md R131): doubling, reduced by 0x1b where bit 7 was set. -/
def xtime (b : Byte) : Byte := if b.getLsbD 7 then (b <<< 1) ^^^ 0x1b#8 else b <<< 1

/-- gmul2 is xtime (R132). -/
def gmul2 (b : Byte) : Byte := xtime b

/-- R133. -/
def gmul3 (b : Byte) : Byte := xtime b ^^^ b

/-- R134. -/
def gmul9 (b : Byte) : Byte := xtime (xtime (xtime b)) ^^^ b

/-- R135. -/
def gmul11 (b : Byte) : Byte := gmul9 b ^^^ xtime b

/-- R136. -/
def gmul13 (b : Byte) : Byte := gmul9 b ^^^ xtime (xtime b)

/-- R137. -/
def gmul14 (b : Byte) : Byte := xtime b ^^^ xtime (xtime b) ^^^ xtime (xtime (xtime b))

namespace Machine

/-- XTIME (R139). -/
def execXtime (b : Byte) (s : State) : Result := scalar (zextByte (xtime b)) s

/-- GMUL3 (R140). -/
def execGmul3 (b : Byte) (s : State) : Result := scalar (zextByte (gmul3 b)) s

/-- GMUL9 (R141). -/
def execGmul9 (b : Byte) (s : State) : Result := scalar (zextByte (gmul9 b)) s

/-- GMUL11 (R142). -/
def execGmul11 (b : Byte) (s : State) : Result := scalar (zextByte (gmul11 b)) s

/-- GMUL13 (R143). -/
def execGmul13 (b : Byte) (s : State) : Result := scalar (zextByte (gmul13 b)) s

/-- GMUL14 (R144). -/
def execGmul14 (b : Byte) (s : State) : Result := scalar (zextByte (gmul14 b)) s

end Machine

end Sys2Proof
end

