-- ==== Sys2Proof/Machine/Rcon.lean ====
section
/-! DEFINITION. The round-constant generator (43_rcon.md): the sequence (R170) and the command that
exposes element n of it (R173). -/

namespace Sys2Proof

/-- `rcon(0) = 0x01` and `rcon(n) = xtime(rcon(n-1))` (R170). -/
def rcon : Nat → Byte
  | 0 => 0x01#8
  | n + 1 => xtime (rcon n)

namespace Machine

/-- RCON (R173): element n of the 0-indexed sequence. -/
def execRcon (n : Nat) (s : State) : Result := scalar (zextByte (rcon n)) s

end Machine

end Sys2Proof
end

