-- ==== Sys2Proof/Machine/KeySchedule.lean ====
section
/-! DEFINITION. The key-expansion scheduler (44_key_schedule.md): RotWord, SubWord, the recurrence of
R183 with the rcon index of R184 (90_conflicts.md C1), the commands ROTWORD, SUBWORD and EXPAND (R188
to R190), and the round-key read-back (R191). -/

namespace Sys2Proof

/-- `RotWord(a0, a1, a2, a3) = (a1, a2, a3, a0)` (R181). -/
def rotWord (w : Word) : Word := wordOf (byteOf w 1) (byteOf w 2) (byteOf w 3) (byteOf w 0)

/-- `SubWord(a0, a1, a2, a3) = (SBOX[a0], SBOX[a1], SBOX[a2], SBOX[a3])` (R182). -/
def subWord (w : Word) : Word :=
  wordOf (sbox (byteOf w 0)) (sbox (byteOf w 1)) (sbox (byteOf w 2)) (sbox (byteOf w 3))

/-- `zext_32(rcon(n)) << 24`: the rcon byte in byte 0 of the word (R183). -/
def rconWord (n : Nat) : Word := zextByte (rcon n) <<< 24

/-- The body of the loop of R183 at word i, given `prev = W[i-1]` and `back = W[i-Nk]`. The cases are
tested in the order shown. For `i < Nk` the key word is in range, since Nk ≤ 8. -/
def nextWord (key : Vector Word 8) (nk i : Nat) (prev back : Word) : Word :=
  if i < nk then key[i]?.getD 0
  else if i % nk = 0 then back ^^^ (subWord (rotWord prev) ^^^ rconWord (i / nk - 1))
  else if nk = 8 ∧ i % nk = 4 then back ^^^ subWord prev
  else back ^^^ prev

/-- The words W[n-1], ..., W[0], latest first: W[i-1] is then the head and W[i-Nk] the entry Nk-1.
The defaults stand for words before W[0], which `nextWord` does not read. -/
def expandRev (key : Vector Word 8) (nk : Nat) : Nat → List Word
  | 0 => []
  | n + 1 =>
    nextWord key nk n ((expandRev key nk n).getD 0 0) ((expandRev key nk n).getD (nk - 1) 0)
      :: expandRev key nk n

/-- `Expand(KEY, Nk, Nr)`: the words W[0..4·(Nr+1)-1] (R183). -/
def expand (key : Vector Word 8) (v : Variant) : List Word :=
  (expandRev key v.nk (4 * (v.nr + 1))).reverse

/-- The store after an expansion: the words of `expand`, and zero in the words beyond them (R190). -/
def schedule (key : Vector Word 8) (v : Variant) : Store :=
  buildStore fun i => (expand key v).getD i 0

namespace Machine

/-- Writes the schedule of the current key for the variant v (R190): the flags are those of
`setSchedule`. -/
def loadSchedule (v : Variant) (s : State) : State := s.setSchedule v (schedule s.key v)

/-- `RKOUT[c]` (R191): W[4·RKSEL + c] where RKSEL ≤ 14, and zero where RKSEL = 15; SV is not read. -/
def rkOut (c : Fin 4) (s : State) : Word :=
  if s.rkSel.toNat ≤ 14 then storeWord s.w (4 * s.rkSel.toNat + c.val) else 0

/-- ROTWORD (R188). -/
def execRotword (s : State) : Result := scalar (rotWord s.opw) s

/-- SUBWORD (R189). -/
def execSubword (s : State) : Result := scalar (subWord s.opw) s

/-- EXPAND (R190). -/
def execExpand (s : State) : Result :=
  match selectVariant s.keyLen with
  | none => raiseCmdError .invalidKeyLength s
  | some v => .next (succeed (loadSchedule v s))

end Machine

end Sys2Proof
end

