-- ==== Sys2Proof/Machine/Transforms.lean ====
section
/-! DEFINITION. The state matrix transforms (45_state_transforms.md): the seven functions on the whole
state (R210 to R216) and their commands (R218 to R224). -/

namespace Sys2Proof

/-- Applies f to every byte of the state. -/
def mapBytes (f : Byte → Byte) (s : Block) : Block := Block.build fun r c => f (Block.entry s r c)

/-- Replaces each column (c0, c1, c2, c3) by the column f gives for it, row by row; f reads the old
column only (R215, R216). -/
def mapColumns (f : Byte → Byte → Byte → Byte → Fin 4 → Byte) (s : Block) : Block :=
  Block.build fun r c =>
    f (Block.entry s 0 c) (Block.entry s 1 c) (Block.entry s 2 c) (Block.entry s 3 c) r

/-- `AddRoundKey(s, r)` (R210): `s'[j][c] = s[j][c] ^ bytes(W[4r + c])[j]`. -/
def addRoundKey (w : Store) (r : Nat) (s : Block) : Block :=
  Block.build fun j c => Block.entry s j c ^^^ Block.entry (roundKey w r) j c

/-- R211. -/
def subBytes (s : Block) : Block := mapBytes sbox s

/-- R212. -/
def invSubBytes (s : Block) : Block := mapBytes isbox s

/-- `s'[r][c] = s[r][(c + r) mod 4]` (R213); the sum of two `Fin 4` is modulo 4. -/
def shiftRows (s : Block) : Block := Block.build fun r c => Block.entry s r (c + r)

/-- `s'[r][c] = s[r][(c - r) mod 4]` (R214). -/
def invShiftRows (s : Block) : Block := Block.build fun r c => Block.entry s r (c - r)

/-- The four equations of R215. -/
def mixColumn (c0 c1 c2 c3 : Byte) : Fin 4 → Byte
  | 0 => gmul2 c0 ^^^ gmul3 c1 ^^^ c2 ^^^ c3
  | 1 => c0 ^^^ gmul2 c1 ^^^ gmul3 c2 ^^^ c3
  | 2 => c0 ^^^ c1 ^^^ gmul2 c2 ^^^ gmul3 c3
  | 3 => gmul3 c0 ^^^ c1 ^^^ c2 ^^^ gmul2 c3

/-- The four equations of R216. -/
def invMixColumn (c0 c1 c2 c3 : Byte) : Fin 4 → Byte
  | 0 => gmul14 c0 ^^^ gmul11 c1 ^^^ gmul13 c2 ^^^ gmul9 c3
  | 1 => gmul9 c0 ^^^ gmul14 c1 ^^^ gmul11 c2 ^^^ gmul13 c3
  | 2 => gmul13 c0 ^^^ gmul9 c1 ^^^ gmul14 c2 ^^^ gmul11 c3
  | 3 => gmul11 c0 ^^^ gmul13 c1 ^^^ gmul9 c2 ^^^ gmul14 c3

/-- R215. -/
def mixColumns (s : Block) : Block := mapColumns mixColumn s

/-- R216. -/
def invMixColumns (s : Block) : Block := mapColumns invMixColumn s

namespace Machine

/-- ADDRK (R218): SV is checked first, then the range of the round (60_exceptions.md R265). -/
def execAddrk (r : Nat) (s : State) : Result :=
  if s.sv = false then raiseCmdError .scheduleNotValid s
  else if s.nr.toNat < r then raiseCmdError .roundOutOfRange s
  else transform (addRoundKey s.w r) s

/-- SUBBYTES (R219). -/
def execSubbytes (s : State) : Result := transform subBytes s

/-- INVSUBBYTES (R220). -/
def execInvsubbytes (s : State) : Result := transform invSubBytes s

/-- SHIFTROWS (R221). -/
def execShiftrows (s : State) : Result := transform shiftRows s

/-- INVSHIFTROWS (R222). -/
def execInvshiftrows (s : State) : Result := transform invShiftRows s

/-- MIXCOLUMNS (R223). -/
def execMixcolumns (s : State) : Result := transform mixColumns s

/-- INVMIXCOLUMNS (R224). -/
def execInvmixcolumns (s : State) : Result := transform invMixColumns s

end Machine

end Sys2Proof
end

