-- ==== Sys2Proof/Machine/Cipher.lean ====
section
/-! DEFINITION. The round pipeline (46_cipher.md): the forward and the inverse sequence (R240, R241), and
ENCRYPT and DECRYPT (R243 to R245). -/

namespace Sys2Proof

/-- One round of the forward pipeline (R240). -/
def cipherRound (w : Store) (s : Block) (round : Nat) : Block :=
  addRoundKey w round (mixColumns (shiftRows (subBytes s)))

/-- `Cipher(s, W, Nr)` (R240); the rounds run over `1 .. Nr-1`. -/
def cipher (w : Store) (nr : Nat) (s : Block) : Block :=
  addRoundKey w nr (shiftRows (subBytes
    ((List.range' 1 (nr - 1)).foldl (cipherRound w) (addRoundKey w 0 s))))

/-- One round of the inverse pipeline (R241): AddRoundKey comes before InvMixColumns. -/
def invCipherRound (w : Store) (s : Block) (round : Nat) : Block :=
  invMixColumns (addRoundKey w round (invSubBytes (invShiftRows s)))

/-- `InvCipher(s, W, Nr)` (R241); the rounds run over `Nr-1 .. 1 step -1`. -/
def invCipher (w : Store) (nr : Nat) (s : Block) : Block :=
  addRoundKey w 0 (invSubBytes (invShiftRows
    ((List.range' 1 (nr - 1)).reverse.foldl (invCipherRound w) (addRoundKey w nr s))))

namespace Machine

/-- What ENCRYPT and DECRYPT share (R243 to R245): KEYLEN is checked first, then BLKLEN; the key is
always expanded anew, and the pipeline runs on the new schedule. -/
def runCipher (pipeline : Store → Nat → Block → Block) (s : State) : Result :=
  match selectVariant s.keyLen with
  | none => raiseCmdError .invalidKeyLength s
  | some v =>
    if s.blkLen = Config.blockBytes then
      .next (succeed ((loadSchedule v s).setBlock (pipeline (schedule s.key v) v.nr s.block)))
    else raiseCmdError .invalidBlockLength s

/-- ENCRYPT (R244). -/
def execEncrypt (s : State) : Result := runCipher cipher s

/-- DECRYPT (R245). -/
def execDecrypt (s : State) : Result := runCipher invCipher s

end Machine

end Sys2Proof
end

