-- ==== Sys2Proof/Machine/Dispatch.lean ====
section
/-! DEFINITION. The dispatch of a command to its meaning (30_encoding.md R104, R105: "run the rule of opc
with its operand"), one arm per constructor of Instr. -/

namespace Sys2Proof.Machine

-- Runs one decoded command.
def exec (i : Instr) (s : State) : Host.Outcome State Fault Refusal :=
  match i with
  | .xtime b => Sys2Proof.Machine.execXtime b s
  | .gmul3 b => Sys2Proof.Machine.execGmul3 b s
  | .gmul9 b => Sys2Proof.Machine.execGmul9 b s
  | .gmul11 b => Sys2Proof.Machine.execGmul11 b s
  | .gmul13 b => Sys2Proof.Machine.execGmul13 b s
  | .gmul14 b => Sys2Proof.Machine.execGmul14 b s
  | .sbox x => Sys2Proof.Machine.execSbox x s
  | .isbox y => Sys2Proof.Machine.execIsbox y s
  | .rcon n => Sys2Proof.Machine.execRcon n s
  | .rotword => Sys2Proof.Machine.execRotword s
  | .subword => Sys2Proof.Machine.execSubword s
  | .expand => Sys2Proof.Machine.execExpand s
  | .addrk r => Sys2Proof.Machine.execAddrk r s
  | .subbytes => Sys2Proof.Machine.execSubbytes s
  | .invsubbytes => Sys2Proof.Machine.execInvsubbytes s
  | .shiftrows => Sys2Proof.Machine.execShiftrows s
  | .invshiftrows => Sys2Proof.Machine.execInvshiftrows s
  | .mixcolumns => Sys2Proof.Machine.execMixcolumns s
  | .invmixcolumns => Sys2Proof.Machine.execInvmixcolumns s
  | .encrypt => Sys2Proof.Machine.execEncrypt s
  | .decrypt => Sys2Proof.Machine.execDecrypt s

end Sys2Proof.Machine
end

