-- ==== Sys2Proof/Machine/Window.lean ====
section
/-! DEFINITION. The register window (20_memory.md): the check every access passes (R74, R75), reads (R77),
writes (R78, R79), the execution of a word written to CMD (R80, 30_encoding.md R105), the service of one
transfer (R71), and what the host's other events do. -/

namespace Sys2Proof.Machine

/-- `check(off, size)` (R74): a 32-bit access at a multiple of 4 and at a mapped offset (R73). `none` is
BusError. -/
def checkAccess (off : Offset) (size : AccessSize) : Option Reg :=
  if size = .word ∧ off.extractLsb' 0 2 = 0#2 then regAt off else none

/-- The value a read of a register returns (R77); reserved bits read as zero (R76). `none` is BusError:
CMD cannot be read (R75). -/
def readReg (r : Reg) (s : State) : Option Word :=
  match r with
  | .cmd => none
  | .status => some (statusWord s)
  | .keyLen => some (s.keyLen.setWidth 32)
  | .blkLen => some (s.blkLen.setWidth 32)
  | .key j => some s.key[j]
  | .state c => some (Block.column s.block c)
  | .opw => some s.opw
  | .result => some s.result
  | .rkSel => some (s.rkSel.setWidth 32)
  | .rkOut c => some (rkOut c s)

/-- `MemRead(off, 4)` (R77): the register's value, or `none`, BusError. It changes no state. -/
def memRead (off : Offset) (size : AccessSize) (s : State) : Option Word :=
  (checkAccess off size).bind fun r => readReg r s

/-- `execute(v)` (30_encoding.md R105): an illegal word raises IllegalCommand before any of the command's
own checks, and a legal one runs its rule. -/
def execute (v : Word) (s : State) : Result :=
  match decode v with
  | .command i => exec i s
  | .illegal _ => raiseCmdError .illegalCommand s

/-- What a write of v to a register does (R78); reserved bits are not stored (R76). `none` is BusError:
STATUS, RESULT and RKOUT are read-only (R75). -/
def writeReg (r : Reg) (v : Word) (s : State) : Option Result :=
  match r with
  | .cmd => some (execute v s)
  | .status => none
  | .keyLen => some (.next (s.setKeyLen (v.extractLsb' 0 8)).invalidate)
  | .blkLen => some (.next (s.setBlkLen (v.extractLsb' 0 8)))
  | .key j => some (.next (s.setKey j v).invalidate)
  | .state c => some (.next (s.setBlock (Block.setColumn s.block c v)))
  | .opw => some (.next (s.setOpw v))
  | .result => none
  | .rkSel => some (.next (s.setRkSel (v.extractLsb' 0 4)))
  | .rkOut _ => none

/-- `MemWrite(off, 4, v)` (R78), or `none`, BusError. -/
def memWrite (off : Offset) (size : AccessSize) (v : Word) (s : State) : Option Result :=
  (checkAccess off size).bind fun r => writeReg r v s

/-- One transfer, as one atomic step (R71): the whole command where it writes CMD (R80), and its response
(R70). A bus error changes no register and runs no command (60_exceptions.md R264). -/
def serve (t : Transfer) (s : State) : Result :=
  match t with
  | .read off size =>
    match memRead off size s with
    | some v => .next (s.respond (some (.okayData v)))
    | none => .next (s.respond (some .error))
  | .write off size v =>
    match memWrite off size v s with
    | some o => onNext o (State.respond (some .okay))
    | none => .next (s.respond (some .error))

/-- A reset between transfers (70_reset_and_hazards.md R290): every register at its reset value; the port
answers nothing. -/
def serveReset (s : State) : Result := .next (s.resetRegisters.respond none)

/-- A reset in the middle of a transfer (R290): the transfer is abandoned and its effects are lost. Its
response, if any, is a free value (93_implementation_defined.md, log entry 4). -/
def serveAbandoned (s : State) : Result :=
  .next (s.resetRegisters.respond (Config.abandonedResponse s.freeCount)).takeFree

/-- What one event of the host does. -/
def serveEvent (e : HostEvent) (s : State) : Result :=
  match e with
  | .bus t => serve t s
  | .reset => serveReset s
  | .resetDuring _ => serveAbandoned s

/-- One step (70_reset_and_hazards.md R301, 20_memory.md R86): the oldest event the host has issued is
served, in one step. With none pending CORE is idle and all state is held (60_exceptions.md R278). -/
def serveNext (s : State) : Result :=
  match s.pending with
  | [] => .next s
  | e :: rest => serveEvent e (s.setPending rest)

/-- The transfer that carries a command word: a 32-bit write to CMD, offset 0x00 (30_encoding.md R100). -/
def commandTransfer (v : Word) : Transfer := .write (regOffset .cmd) .word v

/-- The state in which the host's next event is the write of the command word w of nbits bits to CMD
(log entry 1). -/
def issueCommand (s : State) (nbits w : Nat) : State :=
  s.setPending (.bus (commandTransfer (BitVec.ofNat 32 (w % 2 ^ nbits))) :: s.pending)

end Sys2Proof.Machine
end

