-- ==== Sys2Proof/Machine/Step.lean ====
section
/-! DEFINITION. The step of the machine, and how a command comes to be the next one it runs. -/

namespace Sys2Proof.Machine

/-- One step: the host's oldest pending event, served whole (20_memory.md R71, R86). -/
def step (s : State) : Host.Outcome State Fault Refusal := serveNext s

/-- `s` with the command word `w` of `nbits` bits as the host's next write to CMD: CORE fetches nothing
(10_state.md R32), the host's list of accesses is the program (log entry 1). -/
def State.withFetchWord (s : State) (nbits w : Nat) : State := issueCommand s nbits w

end Sys2Proof.Machine
end

