-- ==== Sys2Proof/Machine/HostProgram.lean ====
section
/-! DEFINITION. The host's programs (30_encoding.md R108 to R110): the assembler, the statements of a host
program as bus transfers, and the pseudo-instructions as their expansions. None of it is an action of
CORE. -/

namespace Sys2Proof.Machine

/-- The statement forms of R109. `rdExpect` states what a read should return; CORE only sees the read. -/
inductive HostStatement where
  | wr (off : Offset) (v : Word)
  | rd (off : Offset)
  | rdExpect (off : Offset) (v : Word)
  | cmd (i : Instr)
deriving DecidableEq, Repr

/-- The transfer a statement makes (R109). -/
def transferOf : HostStatement → Transfer
  | .wr off v => .write off .word v
  | .rd off => .read off .word
  | .rdExpect off _ => .read off .word
  | .cmd i => commandTransfer (encode i)

/-- The host's program as CORE meets it: one bus event per statement, in order. -/
def hostEvents (p : List HostStatement) : List HostEvent := p.map fun st => .bus (transferOf st)

/-- A byte operand in its range (R108); out of range is an assembly error. -/
def byteOperand (x : Nat) (i : Byte → Instr) : Option Instr :=
  if x ≤ 255 then some (i (BitVec.ofNat 8 x)) else none

/-- An operand in 0..255 or in 0..15 as a count (R108). -/
def countOperand (limit x : Nat) (i : Nat → Instr) : Option Instr :=
  if x ≤ limit then some (i x) else none

/-- The assembler (R108) on a mnemonic and its operand, if it has one, GMUL2 (R110) among them. `none` is
an assembly error. -/
def assemble (mnemonic : String) (operand : Option Nat) : Option Instr :=
  match mnemonic, operand with
  | "XTIME", some x => byteOperand x .xtime
  | "GMUL2", some x => byteOperand x .xtime
  | "GMUL3", some x => byteOperand x .gmul3
  | "GMUL9", some x => byteOperand x .gmul9
  | "GMUL11", some x => byteOperand x .gmul11
  | "GMUL13", some x => byteOperand x .gmul13
  | "GMUL14", some x => byteOperand x .gmul14
  | "SBOX", some x => byteOperand x .sbox
  | "ISBOX", some x => byteOperand x .isbox
  | "RCON", some x => countOperand 255 x .rcon
  | "ROTWORD", none => some .rotword
  | "SUBWORD", none => some .subword
  | "EXPAND", none => some .expand
  | "ADDRK", some x => countOperand 15 x .addrk
  | "SUBBYTES", none => some .subbytes
  | "INVSUBBYTES", none => some .invsubbytes
  | "SHIFTROWS", none => some .shiftrows
  | "INVSHIFTROWS", none => some .invshiftrows
  | "MIXCOLUMNS", none => some .mixcolumns
  | "INVMIXCOLUMNS", none => some .invmixcolumns
  | "ENCRYPT", none => some .encrypt
  | "DECRYPT", none => some .decrypt
  | _, _ => none

/-- `word(k[4j..4j+3])` of a byte sequence (00_scope.md R11). -/
def wordAt (k : List Byte) (j : Nat) : Word :=
  wordOf (k.getD (4 * j) 0) (k.getD (4 * j + 1) 0) (k.getD (4 * j + 2) 0) (k.getD (4 * j + 3) 0)

/-- `setkey k`, for k of 16, 24 or 32 bytes (R110). -/
def setkey (k : List Byte) : List HostStatement :=
  .wr (regOffset .keyLen) (BitVec.ofNat 32 k.length) ::
    (List.finRange 8).filterMap fun j =>
      if j.val < k.length / 4 then some (.wr (regOffset (.key j)) (wordAt k j.val)) else none

/-- `setblock p`, for p of 16 bytes (R110). -/
def setblock (p : List Byte) : List HostStatement :=
  [.wr (regOffset .blkLen) 16, .wr (regOffset (.state 0)) (wordAt p 0),
   .wr (regOffset (.state 1)) (wordAt p 1), .wr (regOffset (.state 2)) (wordAt p 2),
   .wr (regOffset (.state 3)) (wordAt p 3)]

/-- `getblock` (R110). -/
def getblock : List HostStatement :=
  [.rd (regOffset (.state 0)), .rd (regOffset (.state 1)), .rd (regOffset (.state 2)),
   .rd (regOffset (.state 3))]

/-- `getrk r` (R110). -/
def getrk (r : Word) : List HostStatement :=
  [.wr (regOffset .rkSel) r, .rd (regOffset (.rkOut 0)), .rd (regOffset (.rkOut 1)),
   .rd (regOffset (.rkOut 2)), .rd (regOffset (.rkOut 3))]

/-- `getstatus` (R110). -/
def getstatus : List HostStatement := [.rd (regOffset .status)]

/-- Runs commands one after the other, as the host's CMD writes do (46_cipher.md R248). -/
def runCommands : List Instr → State → Result
  | [], s => .next s
  | i :: is, s =>
    match exec i s with
    | .next t => runCommands is t
    | .fault r => .fault r
    | .refused r => .refused r

/-- The commands of R248 that leave the same state as ENCRYPT. -/
def encryptProgram (nr : Nat) : List Instr :=
  [.expand, .addrk 0] ++
    (List.range' 1 (nr - 1)).flatMap (fun r => [.subbytes, .shiftrows, .mixcolumns, .addrk r]) ++
    [.subbytes, .shiftrows, .addrk nr]

/-- The commands of R248 that leave the same state as DECRYPT, in the order of R241. -/
def decryptProgram (nr : Nat) : List Instr :=
  [.expand, .addrk nr] ++
    (List.range' 1 (nr - 1)).reverse.flatMap
      (fun r => [.invshiftrows, .invsubbytes, .addrk r, .invmixcolumns]) ++
    [.invshiftrows, .invsubbytes, .addrk 0]

end Sys2Proof.Machine
end

