-- ==== Sys2Proof/Machine/Port.lean ====
section
/-! DEFINITION. The port of CORE at the level of clock edges (20_memory.md R70, R93,
70_reset_and_hazards.md R290): a refinement of the atomic transfer that `serve` is (20_memory.md R71).
The latency is the OPEN parameter CMD_LATENCY, an argument of every function here (log entry 5). -/

namespace Sys2Proof.Machine

/-- What the port holds between two rising edges of `clk`. -/
structure PortState where
  /-- The state of CORE. -/
  regs    : State
  /-- `rst_n` was 0 at the last edge. -/
  inReset : Bool
  /-- The transfer in progress, and how many more edges pass before the one that acknowledges it. -/
  busy    : Option (Transfer × Nat)
  /-- How many edges have passed: what the free outputs are drawn with. -/
  edges   : Nat
deriving DecidableEq, Repr

/-- The transfer the request pins ask for (R70). -/
def transferOfPins (i : PortIn) : Transfer :=
  if i.we then .write i.addr (sizeOfPins i.size) i.wdata else .read i.addr (sizeOfPins i.size)

/-- The output pins at an edge that gives the response, or gives none (R70, 60_exceptions.md R264):
`bus_rdata` is 0 when the response is ERROR, and what R70 does not state is a free value. -/
def portOut (n : Nat) (r : Option Response) : PortOut :=
  match r with
  | none => { ack := false, err := Config.undrivenErr n, rdata := Config.undrivenRdata n }
  | some (.okayData v) => { ack := true, err := false, rdata := v }
  | some .okay => { ack := true, err := false, rdata := Config.undrivenRdata n }
  | some .error => { ack := true, err := true, rdata := 0 }

/-- An edge at which the port acknowledges nothing. -/
def noAck (p : PortState) : PortState × PortOut :=
  ({ p with edges := p.edges + 1 }, portOut p.edges none)

/-- The port at the first edge with `rst_n` = 1 after a reset: every register at its reset value (R290). -/
def leaveReset (p : PortState) : PortState :=
  if p.inReset then
    { p with regs := p.regs.resetRegisters.respond none, inReset := false, busy := none }
  else p

/-- An edge with `rst_n` = 1: the transfer in progress ends at the edge its latency gives, the whole of it
taking effect there; with none in progress, a request starts one. -/
def edgeRunning (latency : State → Transfer → Nat) (p : PortState) (i : PortIn) :
    Host.Outcome (PortState × PortOut) Fault Refusal :=
  match p.busy with
  | some (t, 0) =>
    match serve t p.regs with
    | .next s => .next ({ p with regs := s, busy := none, edges := p.edges + 1 },
        portOut p.edges s.response)
    | .fault r => .fault r
    | .refused r => .refused r
  | some (t, k + 1) => .next (noAck { p with busy := some (t, k) })
  | none =>
    if i.req then
      .next (noAck { p with
        busy := some (transferOfPins i, latency p.regs (transferOfPins i) - 1) })
    else .next (noAck p)

/-- One rising edge of `clk` (R70, R290): while `rst_n` = 0 the bus is ignored and a transfer in progress
is abandoned. -/
def edge (latency : State → Transfer → Nat) (p : PortState) (i : PortIn) :
    Host.Outcome (PortState × PortOut) Fault Refusal :=
  if i.rstN then edgeRunning latency (leaveReset p) i
  else .next (noAck { p with inReset := true, busy := none })

/-- The edges one after the other, with the outputs of each, the first edge's first. -/
def runEdges (latency : State → Transfer → Nat) (p : PortState) :
    List PortIn → Host.Outcome (PortState × List PortOut) Fault Refusal
  | [] => .next (p, [])
  | i :: is =>
    match edge latency p i with
    | .next (p', o) =>
      match runEdges latency p' is with
      | .next (q, os) => .next (q, o :: os)
      | .fault r => .fault r
      | .refused r => .refused r
    | .fault r => .fault r
    | .refused r => .refused r

end Sys2Proof.Machine
end

