-- ==== Sys2Proof/Reference.lean ====
section
/-! DEFINITION. What the statements compare the machine with: the field GF(2^8) as polynomial arithmetic
(41_galois.md R130), the construction of the S-box (42_sbox.md R152), the matrices of
45_state_transforms.md R215 and R216, and the illegal opcode ranges of 30_encoding.md R106. The model does
not use them. -/

namespace Sys2Proof.Reference

/-- The product of two bytes as polynomials over GF(2), not reduced: degree at most 14. -/
def polyMul (a b : Byte) : BitVec 15 :=
  (List.range 8).foldl
    (fun p i => if b.getLsbD i then p ^^^ a.setWidth 15 <<< i else p) 0#15

/-- Clears the coefficient of x^(8+i) with m(x) = x^8+x^4+x^3+x+1, the value 0x11b. -/
def reduceAt (p : BitVec 15) (i : Nat) : BitVec 15 :=
  if p.getLsbD (8 + i) then p ^^^ 0x11b#15 <<< i else p

/-- Multiplication in GF(2^8): "polynomial multiplication reduced modulo m(x)" (R130). -/
def fieldMul (a b : Byte) : Byte :=
  ([6, 5, 4, 3, 2, 1, 0].foldl reduceAt (polyMul a b)).setWidth 8

/-- x to the power 2^(n+1) - 2, by (x^(2^n - 2) · x)^2. -/
def fieldPow : Nat → Byte → Byte
  | 0, _ => 1#8
  | n + 1, x => fieldMul (fieldMul (fieldPow n x) x) (fieldMul (fieldPow n x) x)

/-- inv(x) = x^254, the multiplicative inverse, with inv(0x00) = 0x00 (42_sbox.md R152). -/
def fieldInv (x : Byte) : Byte := fieldPow 7 x

/-- The affine map of R152. -/
def affine (b : Byte) : Byte :=
  b ^^^ b.rotateLeft 1 ^^^ b.rotateLeft 2 ^^^ b.rotateLeft 3 ^^^ b.rotateLeft 4 ^^^ 0x63#8

/-- The matrix with the given first row, each later row the one above it rotated right by one place: the
"cyclic analogues" of R215. -/
def cyclicMatrix (first : Vector Byte 4) : Block :=
  Vector.ofFn fun r => Vector.ofFn fun c => first[c - r]

/-- The matrix of MixColumns, from its first row (R215). -/
def mixMatrix : Block := cyclicMatrix #v[2, 3, 1, 1]

/-- The matrix of InvMixColumns, from its first row (R216). -/
def invMixMatrix : Block := cyclicMatrix #v[14, 11, 13, 9]

/-- Row r of the matrix applied to column c of the state, over GF(2^8). -/
def matrixTimes (m s : Block) (r c : Fin 4) : Byte :=
  fieldMul m[r][(0 : Fin 4)] s[(0 : Fin 4)][c] ^^^ fieldMul m[r][(1 : Fin 4)] s[(1 : Fin 4)][c] ^^^
    fieldMul m[r][(2 : Fin 4)] s[(2 : Fin 4)][c] ^^^ fieldMul m[r][(3 : Fin 4)] s[(3 : Fin 4)][c]

/-- The offsets of the map of 20_memory.md R73: multiples of 4 up to 0x5C, but 0x4C. -/
def MappedOffset (off : Offset) : Prop :=
  off.toNat % 4 = 0 ∧ off.toNat ≤ 0x5C ∧ off.toNat ≠ 0x4C

/-- The mapped offsets of the read-only registers STATUS, RESULT and RKOUT[0..3] (20_memory.md R73, R75). -/
def ReadOnlyOffset (off : Offset) : Prop :=
  off.toNat = 0x04 ∨ off.toNat = 0x44 ∨ 0x50 ≤ off.toNat

/-- The illegal opcode values of R106. -/
def IllegalOpcode (opc : Nat) : Prop :=
  opc ≤ 0x0F ∨ (0x16 ≤ opc ∧ opc ≤ 0x1F) ∨ (0x22 ≤ opc ∧ opc ≤ 0x2F) ∨ (0x31 ≤ opc ∧ opc ≤ 0x3F) ∨
    (0x43 ≤ opc ∧ opc ≤ 0x4F) ∨ (0x57 ≤ opc ∧ opc ≤ 0x5F) ∨ 0x62 ≤ opc

/-- The opcodes of format I (R104). -/
def formatIOpcodes : List Byte := [0x10, 0x11, 0x12, 0x13, 0x14, 0x15, 0x20, 0x21, 0x30]

/-- The opcodes of format N (R104). -/
def formatNOpcodes : List Byte :=
  [0x40, 0x41, 0x42, 0x51, 0x52, 0x53, 0x54, 0x55, 0x56, 0x60, 0x61]

/-- A word whose opcode is legal and whose reserved bits are not all zero (R106). -/
def ReservedBitSet (v : Word) : Prop :=
  (v.extractLsb' 24 8 ∈ formatIOpcodes ∧ v.extractLsb' 8 16 ≠ 0#16) ∨
  (v.extractLsb' 24 8 ∈ formatNOpcodes ∧ v.extractLsb' 0 24 ≠ 0#24) ∨
  (v.extractLsb' 24 8 = 0x50#8 ∧ v.extractLsb' 4 20 ≠ 0#20)

end Sys2Proof.Reference
end

