-- ==== Sys2Proof/Safety.lean ====
section
/-! DEFINITION. What counts as a safe state and a safe run, in the terms the statements use. -/

namespace Sys2Proof.Machine

/-- VARIANT, NK and NR are one of the four rows of 10_state.md R45, and SV is 1 exactly in the last
three (R46). -/
def ScheduleRow (s : State) : Prop :=
  (s.sv = false ∧ s.variant = 0 ∧ s.nk = 0 ∧ s.nr = 0) ∨
  (s.sv = true ∧ s.variant = 1 ∧ s.nk = 4 ∧ s.nr = 10) ∨
  (s.sv = true ∧ s.variant = 2 ∧ s.nk = 6 ∧ s.nr = 12) ∨
  (s.sv = true ∧ s.variant = 3 ∧ s.nk = 8 ∧ s.nr = 14)

/-- What SV = 1 implies (10_state.md R46): KEYLEN is legal, the fields are its row, and W holds the
expansion of the current key, with zero beyond it. -/
def ScheduleCurrent (s : State) : Prop :=
  s.sv = true → ∃ v : Variant, selectVariant s.keyLen = some v ∧ s.variant = v.code ∧
    s.nk.toNat = v.nk ∧ s.nr.toNat = v.nr ∧ s.w = schedule s.key v

/-- The invariant of the machine: 10_state.md R45 and R46, and ERRCODE is one of 0 to 5
(60_exceptions.md R261). -/
structure State.Inv (s : State) : Prop where
  row     : ScheduleRow s
  current : ScheduleCurrent s
  code    : s.errCode.toNat ≤ 5

/-- Nothing stops: the outcome is a next state. -/
def Safe (o : Result) : Prop := ∃ t, o = .next t

/-- KEYLEN ∈ {16, 24, 32} (10_state.md R34). -/
def KeyLengthLegal (s : State) : Prop := s.keyLen = 16#8 ∨ s.keyLen = 24#8 ∨ s.keyLen = 32#8

/-- The words of opcode `opc` in format I (30_encoding.md R102, R105): with bits 23:8 zero the command
runs on IMM8, and otherwise the word is an IllegalCommand. -/
def FormatIRule (opc : Byte) (i : Byte → Instr) : Prop :=
  ∀ (v : Word) (s : State), v.extractLsb' 24 8 = opc →
    execute v s =
      if v.extractLsb' 8 16 = 0#16 then exec (i (v.extractLsb' 0 8)) s
      else .next { s with errCode := 3 }

/-- The words of opcode `opc` in format N (R101, R105): bits 23:0 must be zero. -/
def FormatNRule (opc : Byte) (i : Instr) : Prop :=
  ∀ (v : Word) (s : State), v.extractLsb' 24 8 = opc →
    execute v s =
      if v.extractLsb' 0 24 = 0#24 then exec i s else .next { s with errCode := 3 }

/-- The words of opcode `opc` in format R (R103, R105): bits 23:4 must be zero, and the operand is
RND. -/
def FormatRRule (opc : Byte) (i : Nat → Instr) : Prop :=
  ∀ (v : Word) (s : State), v.extractLsb' 24 8 = opc →
    execute v s =
      if v.extractLsb' 4 20 = 0#20 then exec (i (v.extractLsb' 0 4).toNat) s
      else .next { s with errCode := 3 }

/-- The ERRCODE a legal command leaves, by the checks of 60_exceptions.md R265 in their order. -/
def ReportedCode (i : Instr) (s : State) (c : BitVec 4) : Prop :=
  match i with
  | .expand => (KeyLengthLegal s ∧ c = 0) ∨ (¬KeyLengthLegal s ∧ c = 1)
  | .encrypt | .decrypt =>
    (KeyLengthLegal s ∧ s.blkLen = 16#8 ∧ c = 0) ∨ (¬KeyLengthLegal s ∧ c = 1) ∨
      (KeyLengthLegal s ∧ s.blkLen ≠ 16#8 ∧ c = 2)
  | .addrk r =>
    (s.sv = true ∧ r ≤ s.nr.toNat ∧ c = 0) ∨ (s.sv = false ∧ c = 4) ∨
      (s.sv = true ∧ s.nr.toNat < r ∧ c = 5)
  | .xtime _ | .gmul3 _ | .gmul9 _ | .gmul11 _ | .gmul13 _ | .gmul14 _ => c = 0
  | .sbox _ | .isbox _ | .rcon _ | .rotword | .subword => c = 0
  | .subbytes | .invsubbytes | .shiftrows | .invshiftrows | .mixcolumns | .invmixcolumns => c = 0

/-- The commands whose result is a byte (10_state.md R40). -/
def isByteCommand : Instr → Bool
  | .xtime _ | .gmul3 _ | .gmul9 _ | .gmul11 _ | .gmul13 _ | .gmul14 _ => true
  | .sbox _ | .isbox _ | .rcon _ => true
  | .rotword | .subword | .expand | .addrk _ | .subbytes | .invsubbytes | .shiftrows => false
  | .invshiftrows | .mixcolumns | .invmixcolumns | .encrypt | .decrypt => false

/-- The commands that write RESULT (10_state.md R40). -/
def isScalar : Instr → Bool
  | .xtime _ | .gmul3 _ | .gmul9 _ | .gmul11 _ | .gmul13 _ | .gmul14 _ => true
  | .sbox _ | .isbox _ | .rcon _ | .rotword | .subword => true
  | .expand | .addrk _ | .subbytes | .invsubbytes | .shiftrows | .invshiftrows => false
  | .mixcolumns | .invmixcolumns | .encrypt | .decrypt => false

/-- The commands that write W, SV, VARIANT, NK and NR (30_encoding.md R104). -/
def buildsSchedule : Instr → Bool
  | .expand | .encrypt | .decrypt => true
  | .xtime _ | .gmul3 _ | .gmul9 _ | .gmul11 _ | .gmul13 _ | .gmul14 _ => false
  | .sbox _ | .isbox _ | .rcon _ | .rotword | .subword => false
  | .addrk _ | .subbytes | .invsubbytes | .shiftrows | .invshiftrows => false
  | .mixcolumns | .invmixcolumns => false

/-- The commands that write the state matrix (30_encoding.md R104). -/
def writesBlock : Instr → Bool
  | .addrk _ | .subbytes | .invsubbytes | .shiftrows | .invshiftrows => true
  | .mixcolumns | .invmixcolumns | .encrypt | .decrypt => true
  | .xtime _ | .gmul3 _ | .gmul9 _ | .gmul11 _ | .gmul13 _ | .gmul14 _ => false
  | .sbox _ | .isbox _ | .rcon _ | .rotword | .subword | .expand => false

/-- The two states have the same thirteen pieces of the spec's state (10_state.md R30). -/
def SameRegisters (s t : State) : Prop :=
  t.key = s.key ∧ t.keyLen = s.keyLen ∧ t.blkLen = s.blkLen ∧ t.block = s.block ∧ t.opw = s.opw ∧
  t.result = s.result ∧ t.w = s.w ∧ t.rkSel = s.rkSel ∧ t.sv = s.sv ∧ t.variant = s.variant ∧
  t.nk = s.nk ∧ t.nr = s.nr ∧ t.errCode = s.errCode

end Sys2Proof.Machine
end

