-- ==== Sys2Proof/Certificates/Slice0/Obligations.lean ====
section
/-! DEFINITION. What is claimed of the machine. Each statement's docstring names the rule it formalises;
where it rests on the model's own choice or on an inference the spec marks as its own, it says so. -/

open Sys2Proof Sys2Proof.Machine Sys2Proof.Reference

/-! ### Reset, steps and words -/

/-- 10_state.md R51, the table with its consequences. -/
def Obligations.ResetLeavesEveryRegisterZero : Prop :=
  (∀ j : Fin 8, State.reset.key[j] = 0) ∧ State.reset.keyLen = 0 ∧ State.reset.blkLen = 0 ∧
  (∀ r c : Fin 4, Block.entry State.reset.block r c = 0) ∧ State.reset.opw = 0 ∧
  State.reset.result = 0 ∧ (∀ i : Fin 60, State.reset.w[i] = 0) ∧ State.reset.rkSel = 0 ∧
  State.reset.sv = false ∧ State.reset.variant = 0 ∧ State.reset.nk = 0 ∧ State.reset.nr = 0 ∧
  State.reset.errCode = 0 ∧ statusWord State.reset = 0 ∧
  exec .expand State.reset = .next { State.reset with errCode := 1 } ∧
  exec .encrypt State.reset = .next { State.reset with errCode := 1 } ∧
  exec .decrypt State.reset = .next { State.reset with errCode := 1 } ∧
  exec .encrypt { State.reset with keyLen := 16 } =
    .next { State.reset with keyLen := 16, errCode := 2 } ∧
  exec .decrypt { State.reset with keyLen := 16 } =
    .next { State.reset with keyLen := 16, errCode := 2 } ∧
  ∀ r, exec (.addrk r) State.reset = .next { State.reset with errCode := 4 }

/-- 70_reset_and_hazards.md R290 as the model's step takes it (log entries 1 and 3): a reset leaves every
register at its reset value, and a transfer it cuts short leaves no effect. What response the host saw
for that transfer is a free value (log entry 4), of which nothing is said. -/
def Obligations.ResetEventsRestoreTheResetValues : Prop :=
  ∀ (s : State) (rest : List HostEvent),
    (s.pending = .reset :: rest →
      step s = .next { State.reset with pending := rest, freeCount := s.freeCount }) ∧
    ∀ t : Transfer, s.pending = .resetDuring t :: rest →
      ∃ u, step s = .next u ∧ SameRegisters State.reset u ∧ u.pending = rest

/-- 60_exceptions.md R278, as the model's step takes it (log entry 12): with no event pending all state is
held. -/
def Obligations.IdleStepHoldsAllState : Prop :=
  ∀ s : State, s.pending = [] → step s = .next s

/-- 20_memory.md R80 and 30_encoding.md R105, through the model's list of host events (log entry 1): the
step that serves a write of a command word to CMD is `exec` of the decoded command, with the event taken
off the list before and the response OKAY after. `withFetchWord` makes that write the next event. -/
def Obligations.StepRunsTheDecodedCommand : Prop :=
  (∀ (s : State) (v : Word) (i : Instr) (rest : List HostEvent),
    s.pending = .bus (.write 0x00 .word v) :: rest → decode v = .command i →
      step s = onNext (exec i { s with pending := rest }) fun t => { t with response := some .okay }) ∧
  ∀ (s : State) (v : Word),
    s.withFetchWord 32 v.toNat = { s with pending := .bus (.write 0x00 .word v) :: s.pending }

/-- 30_encoding.md R111: the worked examples, legal and illegal. -/
def Obligations.SampleWordsDecode : Prop :=
  decode 0x150000FF#32 = .command (.gmul14 0xFF#8) ∧
  decode 0x20000053#32 = .command (.sbox 0x53#8) ∧
  decode 0x42000000#32 = .command .expand ∧
  decode 0x56000000#32 = .command .invmixcolumns ∧
  decode 0x61000000#32 = .command .decrypt ∧
  decode 0x00000000#32 = .illegal .unassignedOpcode ∧
  decode 0x51000001#32 = .illegal .reservedBits ∧
  decode 0x50000010#32 = .illegal .reservedBits ∧
  decode 0x10010057#32 = .illegal .reservedBits

/-- The encoder and the decoder agree: no operand and no bit is dropped (30_encoding.md R100 to R108). -/
def Obligations.DecodeInvertsEncode : Prop :=
  ∀ i : Instr, WellFormed i = true → decode (encode i) = .command i

/-- Each legal word has one meaning: it is the encoding of the well-formed command it decodes to. -/
def Obligations.EncodeInvertsDecode : Prop :=
  ∀ (v : Word) (i : Instr), decode v = .command i → WellFormed i = true ∧ encode i = v

/-- 30_encoding.md R106: the illegal words, each of which changes nothing but ERRCODE, and no others. -/
def Obligations.IllegalWordsRaiseIllegalCommand : Prop :=
  ∀ (v : Word) (s : State),
    (IllegalOpcode (v.extractLsb' 24 8).toNat ∨ ReservedBitSet v →
      serve (.write 0x00 .word v) s = .next { s with errCode := 3, response := some .okay }) ∧
    (¬IllegalOpcode (v.extractLsb' 24 8).toNat → ¬ReservedBitSet v → ∃ i, decode v = .command i)

/-- 00_scope.md R11: words as byte sequences, first byte in bits 31:24. -/
def Obligations.WordsHoldTheFirstByteHighest : Prop :=
  (∀ a0 a1 a2 a3 : Byte, wordOf a0 a1 a2 a3 =
    a0.setWidth 32 <<< 24 ||| a1.setWidth 32 <<< 16 ||| a2.setWidth 32 <<< 8 ||| a3.setWidth 32) ∧
  ∀ w : Word, byteOf w 0 = w.extractLsb' 24 8 ∧ byteOf w 1 = w.extractLsb' 16 8 ∧
    byteOf w 2 = w.extractLsb' 8 8 ∧ byteOf w 3 = w.extractLsb' 0 8 ∧
    wordOf (byteOf w 0) (byteOf w 1) (byteOf w 2) (byteOf w 3) = w

/-! ### Scalar commands -/

/-- 41_galois.md R139 to R144: RESULT receives the field product, zero-extended, ERRCODE receives 0, and
nothing else changes; with reserved bits set the word is an IllegalCommand. -/
def Obligations.GaloisCommandsWriteTheFieldProduct : Prop :=
  (∀ (s : State) (b : Byte),
    exec (.xtime b) s = .next { s with result := zextByte (fieldMul 0x02 b), errCode := 0 } ∧
    exec (.gmul3 b) s = .next { s with result := zextByte (fieldMul 0x03 b), errCode := 0 } ∧
    exec (.gmul9 b) s = .next { s with result := zextByte (fieldMul 0x09 b), errCode := 0 } ∧
    exec (.gmul11 b) s = .next { s with result := zextByte (fieldMul 0x0b b), errCode := 0 } ∧
    exec (.gmul13 b) s = .next { s with result := zextByte (fieldMul 0x0d b), errCode := 0 } ∧
    exec (.gmul14 b) s = .next { s with result := zextByte (fieldMul 0x0e b), errCode := 0 }) ∧
  FormatIRule 0x10 .xtime ∧ FormatIRule 0x11 .gmul3 ∧ FormatIRule 0x12 .gmul9 ∧
  FormatIRule 0x13 .gmul11 ∧ FormatIRule 0x14 .gmul13 ∧ FormatIRule 0x15 .gmul14

/-- 41_galois.md R138, the spec's own inferences from R130 to R137: the products distribute over ^. -/
def Obligations.GaloisProductsAreLinear : Prop :=
  ∀ a b : Byte, xtime (a ^^^ b) = xtime a ^^^ xtime b ∧ gmul3 (a ^^^ b) = gmul3 a ^^^ gmul3 b ∧
    gmul9 (a ^^^ b) = gmul9 a ^^^ gmul9 b ∧ gmul11 (a ^^^ b) = gmul11 a ^^^ gmul11 b ∧
    gmul13 (a ^^^ b) = gmul13 a ^^^ gmul13 b ∧ gmul14 (a ^^^ b) = gmul14 a ^^^ gmul14 b

/-- 42_sbox.md R153, R156, R157: the two lookups, the corner cases and examples of their rules, and that
the tables are inverse to each other. -/
def Obligations.SboxCommandsLookUpInverseTables : Prop :=
  (∀ (s : State) (x : Byte),
    exec (.sbox x) s = .next { s with result := zextByte (sbox x), errCode := 0 } ∧
    exec (.isbox x) s = .next { s with result := zextByte (isbox x), errCode := 0 }) ∧
  (∀ x : Byte, isbox (sbox x) = x ∧ sbox (isbox x) = x) ∧
  sbox 0x00 = 0x63 ∧ sbox 0xff = 0x16 ∧ sbox 0x52 = 0x00 ∧ sbox 0x53 = 0xed ∧
  isbox 0x00 = 0x52 ∧ isbox 0x63 = 0x00 ∧ isbox 0xff = 0x7d ∧ isbox 0xed = 0x53 ∧
  FormatIRule 0x20 .sbox ∧ FormatIRule 0x21 .isbox

/-- 42_sbox.md R152, which the spec takes from general knowledge: the S-box is the field inverse followed
by the affine map. -/
def Obligations.SboxIsTheInverseThenAffine : Prop :=
  fieldInv 0x00 = 0x00 ∧ (∀ x : Byte, x ≠ 0 → fieldMul x (fieldInv x) = 0x01) ∧
  ∀ x : Byte, sbox x = affine (fieldInv x)

/-- 42_sbox.md R155, the spec's own inference: no fixed point. -/
def Obligations.SboxTablesHaveNoFixedPoint : Prop :=
  ∀ x : Byte, sbox x ≠ x ∧ isbox x ≠ x

/-- 43_rcon.md R170, R173: the command writes element n of the 0-indexed sequence, for every n. -/
def Obligations.RconCommandWritesElementN : Prop :=
  (∀ (s : State) (n : Nat),
    exec (.rcon n) s = .next { s with result := zextByte (rcon n), errCode := 0 }) ∧
  rcon 0 = 0x01 ∧ (∀ n, rcon (n + 1) = fieldMul 0x02 (rcon n)) ∧
  rcon 7 = 0x80 ∧ rcon 8 = 0x1b ∧ rcon 9 = 0x36 ∧ rcon 50 = 0x8d ∧ rcon 51 = 0x01 ∧ rcon 255 = 0x01 ∧
  FormatIRule 0x30 fun n => .rcon n.toNat

/-- 43_rcon.md R171, the spec's own inference: the sequence has period 51. -/
def Obligations.RconRepeatsWithPeriod51 : Prop :=
  ∀ n, rcon (n + 51) = rcon n ∧ rcon n = rcon (n % 51)

/-- 44_key_schedule.md R188, R189: RESULT receives OPW rotated left by one byte, or OPW with the S-box
applied to each byte; OPW itself does not change. -/
def Obligations.RotwordAndSubwordTransformOpw : Prop :=
  (∀ s : State, ∃ v : Word, exec .rotword s = .next { s with result := v, errCode := 0 } ∧
    v = s.opw.rotateLeft 8 ∧ byteOf v 0 = byteOf s.opw 1 ∧ byteOf v 1 = byteOf s.opw 2 ∧
    byteOf v 2 = byteOf s.opw 3 ∧ byteOf v 3 = byteOf s.opw 0) ∧
  (∀ s : State, ∃ v : Word, exec .subword s = .next { s with result := v, errCode := 0 } ∧
    ∀ j : Fin 4, byteOf v j = sbox (byteOf s.opw j)) ∧
  FormatNRule 0x40 .rotword ∧ FormatNRule 0x41 .subword

/-! ### The key schedule -/

/-- 44_key_schedule.md R183: every word of the schedule, by the case that applies to it. -/
def Obligations.ExpansionFollowsTheRecurrence : Prop :=
  ∀ (key : Vector Word 8) (v : Variant) (i : Nat), i < 4 * (v.nr + 1) →
    (∀ j : Fin 8, i < v.nk → j.val = i → storeWord (schedule key v) i = key[j]) ∧
    (v.nk ≤ i → i % v.nk = 0 → storeWord (schedule key v) i =
      storeWord (schedule key v) (i - v.nk) ^^^
        (subWord (rotWord (storeWord (schedule key v) (i - 1))) ^^^
          zextByte (rcon (i / v.nk - 1)) <<< 24)) ∧
    (v.nk ≤ i → v.nk = 8 → i % v.nk = 4 → storeWord (schedule key v) i =
      storeWord (schedule key v) (i - v.nk) ^^^ subWord (storeWord (schedule key v) (i - 1))) ∧
    (v.nk ≤ i → i % v.nk ≠ 0 → ¬(v.nk = 8 ∧ i % v.nk = 4) → storeWord (schedule key v) i =
      storeWord (schedule key v) (i - v.nk) ^^^ storeWord (schedule key v) (i - 1))

/-- 44_key_schedule.md R180, R190: EXPAND for each legal KEYLEN, its failure for every other, and the
zero words beyond the schedule. -/
def Obligations.ExpandBuildsTheSchedule : Prop :=
  (∀ s : State,
    (s.keyLen = 16#8 → exec .expand s = .next { s with
      w := schedule s.key .aes128, sv := true, variant := 1, nk := 4, nr := 10, errCode := 0 }) ∧
    (s.keyLen = 24#8 → exec .expand s = .next { s with
      w := schedule s.key .aes192, sv := true, variant := 2, nk := 6, nr := 12, errCode := 0 }) ∧
    (s.keyLen = 32#8 → exec .expand s = .next { s with
      w := schedule s.key .aes256, sv := true, variant := 3, nk := 8, nr := 14, errCode := 0 }) ∧
    (¬KeyLengthLegal s → exec .expand s = .next { s with errCode := 1 })) ∧
  (∀ (key : Vector Word 8) (v : Variant) (i : Nat), 4 * (v.nr + 1) ≤ i → i < 60 →
    storeWord (schedule key v) i = 0) ∧
  FormatNRule 0x42 .expand

/-- 44_key_schedule.md R186, R187, the spec's own inferences: the expansion reads KEYLEN and
KEY[0..Nk-1] and nothing else. -/
def Obligations.ExpansionReadsOnlyItsKeyWords : Prop :=
  ∀ (s s' : State) (v : Variant), selectVariant s.keyLen = some v → s'.keyLen = s.keyLen →
    (∀ j : Fin 8, j.val < v.nk → s'.key[j] = s.key[j]) →
    ∃ t t', exec .expand s = .next t ∧ exec .expand s' = .next t' ∧ t'.w = t.w

/-- 44_key_schedule.md R191: RKOUT[c] shows W[4·RKSEL + c], and zero for RKSEL = 15, whatever SV is; the
read changes nothing but the port's answer. -/
def Obligations.RoundKeyReadBack : Prop :=
  ∀ (s : State) (c : Fin 4) (off : Offset), off.toNat = 0x50 + 4 * c.val →
    (∀ i : Fin 60, i.val = 4 * s.rkSel.toNat + c.val →
      serve (.read off .word) s = .next { s with response := some (.okayData s.w[i]) }) ∧
    (s.rkSel = 15 → serve (.read off .word) s = .next { s with response := some (.okayData 0) })

/-! ### State transforms -/

/-- 45_state_transforms.md R210, R218: ADDRK with its two errors, and the transform in both forms of
R210. `storeWord` is W[i] for i < 60. -/
def Obligations.AddrkXorsTheRoundKey : Prop :=
  (∀ (s : State) (r : Nat),
    (s.sv = true → r ≤ s.nr.toNat →
      ∃ b : Block, exec (.addrk r) s = .next { s with block := b, errCode := 0 } ∧
        (∀ c : Fin 4, Block.column b c = Block.column s.block c ^^^ storeWord s.w (4 * r + c.val)) ∧
        ∀ j c : Fin 4,
          Block.entry b j c = Block.entry s.block j c ^^^ byteOf (storeWord s.w (4 * r + c.val)) j) ∧
    (s.sv = false → exec (.addrk r) s = .next { s with errCode := 4 }) ∧
    (s.sv = true → s.nr.toNat < r → exec (.addrk r) s = .next { s with errCode := 5 })) ∧
  (∀ (w : Store) (r : Nat) (b : Block), addRoundKey w r (addRoundKey w r b) = b) ∧
  FormatRRule 0x50 .addrk

/-- 70_reset_and_hazards.md R299: ADDRK with round r reads exactly RK[r], and a write to one word of the
store changes no other. -/
def Obligations.AddrkReadsOnlyItsRoundKey : Prop :=
  (∀ (s s' : State) (r : Nat), s.sv = true → r ≤ s.nr.toNat → s'.sv = s.sv → s'.nr = s.nr →
    s'.block = s.block →
    (∀ c : Fin 4, storeWord s'.w (4 * r + c.val) = storeWord s.w (4 * r + c.val)) →
    ∃ t t', exec (.addrk r) s = .next t ∧ exec (.addrk r) s' = .next t' ∧ t'.block = t.block) ∧
  ∀ (w : Store) (i : Fin 60) (j : Nat) (v : Word), i.val ≠ j →
    storeWord (w.set i v) j = storeWord w j

/-- 45_state_transforms.md R211, R212, R219, R220. -/
def Obligations.SubstitutionCommandsMapEveryByte : Prop :=
  (∀ s : State, ∃ b : Block, exec .subbytes s = .next { s with block := b, errCode := 0 } ∧
    ∀ r c : Fin 4, Block.entry b r c = sbox (Block.entry s.block r c)) ∧
  (∀ s : State, ∃ b : Block, exec .invsubbytes s = .next { s with block := b, errCode := 0 } ∧
    ∀ r c : Fin 4, Block.entry b r c = isbox (Block.entry s.block r c)) ∧
  FormatNRule 0x51 .subbytes ∧ FormatNRule 0x52 .invsubbytes

/-- 45_state_transforms.md R213, R214, R221, R222: the column index modulo 4, as numbers. -/
def Obligations.ShiftCommandsRotateTheRows : Prop :=
  (∀ s : State, ∃ b : Block, exec .shiftrows s = .next { s with block := b, errCode := 0 } ∧
    ∀ r c d : Fin 4, d.val = (c.val + r.val) % 4 →
      Block.entry b r c = Block.entry s.block r d) ∧
  (∀ s : State, ∃ b : Block, exec .invshiftrows s = .next { s with block := b, errCode := 0 } ∧
    ∀ r c d : Fin 4, d.val = (c.val + 4 - r.val) % 4 →
      Block.entry b r c = Block.entry s.block r d) ∧
  FormatNRule 0x53 .shiftrows ∧ FormatNRule 0x54 .invshiftrows

/-- 45_state_transforms.md R215, R216, R223, R224: each column is replaced by its product with the matrix
over GF(2^8). -/
def Obligations.MixCommandsMultiplyByTheMatrix : Prop :=
  (∀ s : State, ∃ b : Block, exec .mixcolumns s = .next { s with block := b, errCode := 0 } ∧
    ∀ r c : Fin 4, Block.entry b r c = matrixTimes mixMatrix s.block r c) ∧
  (∀ s : State, ∃ b : Block, exec .invmixcolumns s = .next { s with block := b, errCode := 0 } ∧
    ∀ r c : Fin 4, Block.entry b r c = matrixTimes invMixMatrix s.block r c) ∧
  FormatNRule 0x55 .mixcolumns ∧ FormatNRule 0x56 .invmixcolumns

/-- 45_state_transforms.md R217, in part the spec's own inference: each transform command is undone by its
inverse, in either order, in every state. -/
def Obligations.TransformCommandsUndoEachOther : Prop :=
  ∀ s : State,
    runCommands [.subbytes, .invsubbytes] s = .next { s with errCode := 0 } ∧
    runCommands [.invsubbytes, .subbytes] s = .next { s with errCode := 0 } ∧
    runCommands [.shiftrows, .invshiftrows] s = .next { s with errCode := 0 } ∧
    runCommands [.invshiftrows, .shiftrows] s = .next { s with errCode := 0 } ∧
    runCommands [.mixcolumns, .invmixcolumns] s = .next { s with errCode := 0 } ∧
    runCommands [.invmixcolumns, .mixcolumns] s = .next { s with errCode := 0 } ∧
    ∀ r, s.sv = true → r ≤ s.nr.toNat →
      runCommands [.addrk r, .addrk r] s = .next { s with errCode := 0 }

/-! ### The cipher -/

/-- 46_cipher.md R240, R244: the forward pipeline on a freshly expanded key, the rounds written as the
sequence `f` of states after each AddRoundKey, and the errors of ENCRYPT. -/
def Obligations.EncryptRunsTheForwardPipeline : Prop :=
  (∀ (s : State) (v : Variant), selectVariant s.keyLen = some v → s.blkLen = 16#8 →
    ∃ f : Nat → Block,
      f 0 = addRoundKey (schedule s.key v) 0 s.block ∧
      (∀ k, k + 1 < v.nr → f (k + 1) =
        addRoundKey (schedule s.key v) (k + 1) (mixColumns (shiftRows (subBytes (f k))))) ∧
      exec .encrypt s = .next { s with
        block := addRoundKey (schedule s.key v) v.nr (shiftRows (subBytes (f (v.nr - 1)))),
        w := schedule s.key v, sv := true, variant := v.code, nk := BitVec.ofNat 4 v.nk,
        nr := BitVec.ofNat 4 v.nr, errCode := 0 }) ∧
  (∀ s : State, ¬KeyLengthLegal s → exec .encrypt s = .next { s with errCode := 1 }) ∧
  (∀ s : State, KeyLengthLegal s → s.blkLen ≠ 16#8 → exec .encrypt s = .next { s with errCode := 2 }) ∧
  FormatNRule 0x60 .encrypt

/-- 46_cipher.md R241, R245: the inverse pipeline, `f k` being the state after the AddRoundKey and
InvMixColumns of k rounds, round Nr - k, and the errors of DECRYPT. -/
def Obligations.DecryptRunsTheInversePipeline : Prop :=
  (∀ (s : State) (v : Variant), selectVariant s.keyLen = some v → s.blkLen = 16#8 →
    ∃ f : Nat → Block,
      f 0 = addRoundKey (schedule s.key v) v.nr s.block ∧
      (∀ k, k + 1 < v.nr → f (k + 1) = invMixColumns
        (addRoundKey (schedule s.key v) (v.nr - (k + 1)) (invSubBytes (invShiftRows (f k))))) ∧
      exec .decrypt s = .next { s with
        block := addRoundKey (schedule s.key v) 0 (invSubBytes (invShiftRows (f (v.nr - 1)))),
        w := schedule s.key v, sv := true, variant := v.code, nk := BitVec.ofNat 4 v.nk,
        nr := BitVec.ofNat 4 v.nr, errCode := 0 }) ∧
  (∀ s : State, ¬KeyLengthLegal s → exec .decrypt s = .next { s with errCode := 1 }) ∧
  (∀ s : State, KeyLengthLegal s → s.blkLen ≠ 16#8 → exec .decrypt s = .next { s with errCode := 2 }) ∧
  FormatNRule 0x61 .decrypt

/-- 46_cipher.md R247, the source's round trip, which the spec marks as derived: for every legal key length,
every key and every block. -/
def Obligations.DecryptUndoesEncrypt : Prop :=
  ∀ s : State, KeyLengthLegal s → s.blkLen = 16#8 →
    (∃ t, runCommands [.encrypt, .decrypt] s = .next t ∧ t.block = s.block ∧ t.errCode = 0) ∧
    ∃ t, runCommands [.decrypt, .encrypt] s = .next t ∧ t.block = s.block ∧ t.errCode = 0

/-- 46_cipher.md R248, the spec's own inference: the host's round commands leave the same state, whole, as
ENCRYPT and as DECRYPT. -/
def Obligations.RoundCommandsEqualTheCipherCommands : Prop :=
  ∀ (s : State) (v : Variant), selectVariant s.keyLen = some v → s.blkLen = 16#8 →
    runCommands (encryptProgram v.nr) s = exec .encrypt s ∧
    runCommands (decryptProgram v.nr) s = exec .decrypt s

/-- 46_cipher.md R246, the spec's own inference: what ENCRYPT and DECRYPT leave in the state matrix and
report depends only on KEYLEN, BLKLEN, the key words in use and the state matrix. -/
def Obligations.CipherOutputDependsOnlyOnKeyAndBlock : Prop :=
  ∀ (s s' : State) (i : Instr), i = .encrypt ∨ i = .decrypt →
    s'.keyLen = s.keyLen → s'.blkLen = s.blkLen → s'.block = s.block →
    (∀ v, selectVariant s.keyLen = some v → ∀ j : Fin 8, j.val < v.nk → s'.key[j] = s.key[j]) →
    ∃ t t', exec i s = .next t ∧ exec i s' = .next t' ∧ t'.block = t.block ∧ t'.errCode = t.errCode

/-- 70_reset_and_hazards.md R298, the spec's own inference: while SV = 1, expanding again rewrites the same
schedule. The premise is the invariant that `StepKeepsTheInvariant` states. -/
def Obligations.ExpandingAgainKeepsAValidSchedule : Prop :=
  ∀ (s : State) (i : Instr), s.Inv → s.sv = true → buildsSchedule i = true →
    ∃ t, exec i s = .next t ∧ t.w = s.w ∧ t.sv = s.sv ∧ t.variant = s.variant ∧ t.nk = s.nk ∧ t.nr = s.nr

/-! ### Errors, frames and the whole machine -/

/-- 60_exceptions.md R262: a command, or a word that is none, that leaves an error code has written it and
nothing else. -/
def Obligations.FailingCommandsWriteOnlyErrcode : Prop :=
  (∀ (i : Instr) (s : State), ∃ t, exec i s = .next t ∧
    (t.errCode ≠ 0 → t = { s with errCode := t.errCode })) ∧
  ∀ (v : Word) (s : State), ∃ t, execute v s = .next t ∧
    (t.errCode ≠ 0 → t = { s with errCode := t.errCode })

/-- 60_exceptions.md R263, R265: every CMD write leaves in ERRCODE the first error that applies, in the
order of the table, and 0 where none does; an illegal word is found before any of the command's checks. -/
def Obligations.CommandsReportTheFirstError : Prop :=
  ∀ (v : Word) (s : State), ∃ t, execute v s = .next t ∧
    (∀ i, decode v = .command i → ReportedCode i s t.errCode) ∧
    (∀ why, decode v = .illegal why → t.errCode = 3)

/-- 10_state.md R47: every command writes ERRCODE and no other bus access changes it. -/
def Obligations.ErrcodeHoldsTheLastCommandsStatus : Prop :=
  (∀ (v : Word) (s : State), ∃ t, serve (.write 0x00 .word v) s = .next t ∧
    (∀ i, decode v = .command i → ReportedCode i s t.errCode) ∧
    (∀ why, decode v = .illegal why → t.errCode = 3)) ∧
  ∀ (tr : Transfer) (s : State), (∀ v, tr ≠ .write 0x00 .word v) →
    ∃ t, serve tr s = .next t ∧ t.errCode = s.errCode

/-- The frame of every command, by the "writes" column of the opcode map (30_encoding.md R104) and
10_state.md R40: no command stops, none writes KEY, KEYLEN, BLKLEN, OPW or RKSEL, and each of RESULT, the
state matrix and the schedule is written by its commands alone. The model's own three fields stay. -/
def Obligations.CommandsWriteOnlyTheirRegisters : Prop :=
  ∀ (i : Instr) (s : State), ∃ t, exec i s = .next t ∧
    t.key = s.key ∧ t.keyLen = s.keyLen ∧ t.blkLen = s.blkLen ∧ t.opw = s.opw ∧ t.rkSel = s.rkSel ∧
    t.pending = s.pending ∧ t.response = s.response ∧ t.freeCount = s.freeCount ∧
    (isScalar i = false → t.result = s.result) ∧
    (isByteCommand i = true → t.result.extractLsb' 8 24 = 0#24) ∧
    (writesBlock i = false → t.block = s.block) ∧
    (buildsSchedule i = false → t.w = s.w ∧ t.sv = s.sv ∧ t.variant = s.variant ∧ t.nk = s.nk ∧
      t.nr = s.nr)

/-- Nothing stops CORE (60_exceptions.md R264, R269, R270, R271; log entry 10): every step answers a next
state, whatever the host does. -/
def Obligations.EveryStepAnswersANextState : Prop :=
  ∀ s : State, Safe (step s)

/-- The invariant holds after reset. -/
def Obligations.ResetMeetsTheInvariant : Prop := State.reset.Inv

/-- 10_state.md R45, R46 and 60_exceptions.md R261, in part the spec's own inferences: a step from any
state with the invariant, whatever event it serves, leads to a state with it. -/
def Obligations.StepKeepsTheInvariant : Prop :=
  ∀ s : State, s.Inv → ∃ t, step s = .next t ∧ t.Inv

/-! ### The register window -/

/-- 20_memory.md R74, R75 and 60_exceptions.md R264: which accesses get ERROR, that they change nothing
(the port's answer apart), and that every other access is answered OKAY. -/
def Obligations.BadAccessesGetErrorAndChangeNothing : Prop :=
  ∀ (off : Offset) (size : AccessSize) (v : Word) (s : State),
    (size ≠ .word ∨ ¬MappedOffset off →
      serve (.read off size) s = .next { s with response := some .error } ∧
      serve (.write off size v) s = .next { s with response := some .error }) ∧
    (off = 0x00 → serve (.read off size) s = .next { s with response := some .error }) ∧
    (MappedOffset off → ReadOnlyOffset off →
      serve (.write off size v) s = .next { s with response := some .error }) ∧
    (size = .word → MappedOffset off → off ≠ 0x00 →
      ∃ x, serve (.read off size) s = .next { s with response := some (.okayData x) }) ∧
    (size = .word → MappedOffset off → ¬ReadOnlyOffset off →
      ∃ t, serve (.write off size v) s = .next t ∧ t.response = some .okay) ∧
    ∀ n, (portOut n (some .error)).err = true ∧ (portOut n (some .error)).rdata = 0

/-- 20_memory.md R77: the value of each register at its offset; a read changes nothing but the port's
answer. -/
def Obligations.ReadsReturnTheRegister : Prop :=
  ∀ s : State,
    serve (.read 0x04 .word) s = .next { s with response := some (.okayData (statusWord s)) } ∧
    serve (.read 0x08 .word) s =
      .next { s with response := some (.okayData (s.keyLen.setWidth 32)) } ∧
    serve (.read 0x0C .word) s =
      .next { s with response := some (.okayData (s.blkLen.setWidth 32)) } ∧
    (∀ (j : Fin 8) (off : Offset), off.toNat = 0x10 + 4 * j.val →
      serve (.read off .word) s = .next { s with response := some (.okayData s.key[j]) }) ∧
    (∀ (c : Fin 4) (off : Offset), off.toNat = 0x30 + 4 * c.val →
      serve (.read off .word) s = .next { s with response := some (.okayData
        (wordOf (Block.entry s.block 0 c) (Block.entry s.block 1 c) (Block.entry s.block 2 c)
          (Block.entry s.block 3 c))) }) ∧
    serve (.read 0x40 .word) s = .next { s with response := some (.okayData s.opw) } ∧
    serve (.read 0x44 .word) s = .next { s with response := some (.okayData s.result) } ∧
    serve (.read 0x48 .word) s =
      .next { s with response := some (.okayData (s.rkSel.setWidth 32)) } ∧
    (∀ (c : Fin 4) (off : Offset), off.toNat = 0x50 + 4 * c.val →
      serve (.read off .word) s = .next { s with response := some (.okayData (rkOut c s)) }) ∧
    ∀ (off : Offset), off = 0x00 ∨ ¬MappedOffset off →
      serve (.read off .word) s = .next { s with response := some .error }

/-- 20_memory.md R78, R79: what a write does at each offset, `invalidate()` on KEYLEN and KEY among it. -/
def Obligations.WritesUpdateTheRegister : Prop :=
  ∀ (s : State) (v : Word),
    serve (.write 0x00 .word v) s =
      onNext (execute v s) (fun t => { t with response := some .okay }) ∧
    serve (.write 0x08 .word v) s = .next { s with
      keyLen := v.extractLsb' 0 8, sv := false, variant := 0, nk := 0, nr := 0,
      response := some .okay } ∧
    serve (.write 0x0C .word v) s =
      .next { s with blkLen := v.extractLsb' 0 8, response := some .okay } ∧
    (∀ (j : Fin 8) (off : Offset), off.toNat = 0x10 + 4 * j.val →
      serve (.write off .word v) s = .next { s with
        key := s.key.set j v, sv := false, variant := 0, nk := 0, nr := 0,
        response := some .okay }) ∧
    (∀ (c : Fin 4) (off : Offset), off.toNat = 0x30 + 4 * c.val →
      ∃ b : Block, serve (.write off .word v) s = .next { s with block := b, response := some .okay } ∧
        (∀ r, Block.entry b r c = byteOf v r) ∧
        ∀ r c', c' ≠ c → Block.entry b r c' = Block.entry s.block r c') ∧
    serve (.write 0x40 .word v) s = .next { s with opw := v, response := some .okay } ∧
    serve (.write 0x48 .word v) s =
      .next { s with rkSel := v.extractLsb' 0 4, response := some .okay } ∧
    ∀ (off : Offset), ReadOnlyOffset off ∨ ¬MappedOffset off →
      serve (.write off .word v) s = .next { s with response := some .error }

/-- 20_memory.md R83, the spec's own inference: a read repeated, or a write other than to CMD repeated,
leaves what it left the first time. -/
def Obligations.AccessesOtherThanCommandsAreIdempotent : Prop :=
  ∀ (tr : Transfer) (s : State), (∀ v, tr ≠ .write 0x00 .word v) →
    ∃ t, serve tr s = .next t ∧ serve tr t = .next t

/-- 10_state.md R44: the fields of STATUS in their places and zero in the others, and the legal values in
every state with the invariant of `StepKeepsTheInvariant`. -/
def Obligations.StatusPacksItsFields : Prop :=
  (∀ s : State,
    (statusWord s).extractLsb' 0 1 = (if s.sv then 1#1 else 0#1) ∧
    (statusWord s).extractLsb' 1 3 = 0#3 ∧ (statusWord s).extractLsb' 4 4 = s.errCode ∧
    (statusWord s).extractLsb' 8 2 = s.variant ∧ (statusWord s).extractLsb' 10 6 = 0#6 ∧
    (statusWord s).extractLsb' 16 4 = s.nr ∧ (statusWord s).extractLsb' 20 4 = 0#4 ∧
    (statusWord s).extractLsb' 24 4 = s.nk ∧ (statusWord s).extractLsb' 28 4 = 0#4) ∧
  (∀ s : State, s.Inv → s.errCode.toNat ≤ 5 ∧ s.nr.toNat ∈ [0, 10, 12, 14] ∧
    s.nk.toNat ∈ [0, 4, 6, 8]) ∧
  statusWord State.reset = 0

/-! ### The port and the host -/

/-- 20_memory.md R71, R93, through the port of log entry 5: for every latency, a request held until its
acknowledgement is answered at exactly one edge, the last, with the response of the atomic transfer, and
leaves the state the atomic transfer leaves. -/
def Obligations.PortRefinesTheAtomicTransfer : Prop :=
  ∀ (latency : State → Transfer → Nat) (p : PortState) (i : PortIn) (L : Nat),
    p.busy = none → p.inReset = false → i.rstN = true → i.req = true →
    L = max 1 (latency p.regs (transferOfPins i)) →
    ∃ (t : State) (outs : List PortOut),
      serve (transferOfPins i) p.regs = .next t ∧
      runEdges latency p (List.replicate (L + 1) i) =
        .next ({ regs := t, inReset := false, busy := none, edges := p.edges + L + 1 },
          outs ++ [portOut (p.edges + L) t.response]) ∧
      outs.length = L ∧ (∀ o ∈ outs, o.ack = false) ∧
      (portOut (p.edges + L) t.response).ack = true

/-- 70_reset_and_hazards.md R290, through the port of log entry 5: while `rst_n` is 0 nothing is
acknowledged and a transfer in progress is abandoned; at the first edge with it high every register has
its reset value. -/
def Obligations.PortAbandonsTransfersInReset : Prop :=
  ∀ (latency : State → Transfer → Nat) (p : PortState) (i i' : PortIn),
    i.rstN = false → i'.rstN = true →
    ∃ q o q' o', edge latency p i = .next (q, o) ∧ o.ack = false ∧ q.busy = none ∧
      edge latency q i' = .next (q', o') ∧ o'.ack = false ∧ SameRegisters State.reset q'.regs ∧
      q'.inReset = false

/-- 20_memory.md R72, for every CORE_BASE (log entry 6): the platform's decoder selects CORE for exactly
the 256 addresses of its window. -/
def Obligations.PlatformDecoderSelectsTheWindow : Prop :=
  ∀ (coreBase addr : Nat) (off : Offset),
    Config.offsetAt coreBase addr = some off ↔
      coreBase ≤ addr ∧ addr ≤ coreBase + 0xFF ∧ off.toNat = addr - coreBase

/-- 70_reset_and_hazards.md R293 with the expansions of 30_encoding.md R110: from any state, loading a key
of 16, 24 or 32 bytes and a block of 16 and writing ENCRYPT leaves the cipher of that block under that
key, with no error. The block's byte i is s[i mod 4][i div 4] (10_state.md R37). That these accesses stand
as a list of events in the state, one served at each step, is the model's choice (log entry 1, DESIGN
CHOICE), not the spec's. -/
def Obligations.BootSequenceEncryptsTheBlock : Prop :=
  ∀ (k p : List Byte) (s : State) (events : List HostEvent),
    k.length = 16 ∨ k.length = 24 ∨ k.length = 32 → p.length = 16 →
    events = hostEvents (setkey k ++ setblock p ++ [.cmd .encrypt]) →
    ∃ (t : State) (v : Variant) (b : Block),
      Host.Core.run Sys2Proof.core events.length ({ s with pending := events } : State) =
        .next t ∧
      4 * v.nk = k.length ∧ (∀ j : Fin 8, j.val < v.nk → t.key[j] = wordAt k j.val) ∧
      (∀ n : Fin 16, Block.blockByte b n = p.getD n.val 0) ∧
      t.block = cipher (schedule t.key v) v.nr b ∧ t.errCode = 0 ∧ t.sv = true ∧ t.pending = []
end

