-- ==== Sys2Proof/Laws/State.lean ====
section
/-! SUPPORT. What each update of the state does to each field: one lemma per field per update, so that no
later proof unfolds an update. -/

namespace Sys2Proof.Machine.State

variable (s : State)

@[simp] theorem setKey_key (j : Fin 8) (v : Word) : (setKey j v s).key = s.key.set j v := rfl
@[simp] theorem setKey_keyLen (j : Fin 8) (v : Word) : (setKey j v s).keyLen = s.keyLen := rfl
@[simp] theorem setKey_blkLen (j : Fin 8) (v : Word) : (setKey j v s).blkLen = s.blkLen := rfl
@[simp] theorem setKey_block (j : Fin 8) (v : Word) : (setKey j v s).block = s.block := rfl
@[simp] theorem setKey_opw (j : Fin 8) (v : Word) : (setKey j v s).opw = s.opw := rfl
@[simp] theorem setKey_result (j : Fin 8) (v : Word) : (setKey j v s).result = s.result := rfl
@[simp] theorem setKey_w (j : Fin 8) (v : Word) : (setKey j v s).w = s.w := rfl
@[simp] theorem setKey_rkSel (j : Fin 8) (v : Word) : (setKey j v s).rkSel = s.rkSel := rfl
@[simp] theorem setKey_sv (j : Fin 8) (v : Word) : (setKey j v s).sv = s.sv := rfl
@[simp] theorem setKey_variant (j : Fin 8) (v : Word) : (setKey j v s).variant = s.variant := rfl
@[simp] theorem setKey_nk (j : Fin 8) (v : Word) : (setKey j v s).nk = s.nk := rfl
@[simp] theorem setKey_nr (j : Fin 8) (v : Word) : (setKey j v s).nr = s.nr := rfl
@[simp] theorem setKey_errCode (j : Fin 8) (v : Word) : (setKey j v s).errCode = s.errCode := rfl
@[simp] theorem setKey_pending (j : Fin 8) (v : Word) : (setKey j v s).pending = s.pending := rfl
@[simp] theorem setKey_response (j : Fin 8) (v : Word) : (setKey j v s).response = s.response := rfl
@[simp] theorem setKey_freeCount (j : Fin 8) (v : Word) : (setKey j v s).freeCount = s.freeCount := rfl

@[simp] theorem setKeyLen_key (v : Byte) : (setKeyLen v s).key = s.key := rfl
@[simp] theorem setKeyLen_keyLen (v : Byte) : (setKeyLen v s).keyLen = v := rfl
@[simp] theorem setKeyLen_blkLen (v : Byte) : (setKeyLen v s).blkLen = s.blkLen := rfl
@[simp] theorem setKeyLen_block (v : Byte) : (setKeyLen v s).block = s.block := rfl
@[simp] theorem setKeyLen_opw (v : Byte) : (setKeyLen v s).opw = s.opw := rfl
@[simp] theorem setKeyLen_result (v : Byte) : (setKeyLen v s).result = s.result := rfl
@[simp] theorem setKeyLen_w (v : Byte) : (setKeyLen v s).w = s.w := rfl
@[simp] theorem setKeyLen_rkSel (v : Byte) : (setKeyLen v s).rkSel = s.rkSel := rfl
@[simp] theorem setKeyLen_sv (v : Byte) : (setKeyLen v s).sv = s.sv := rfl
@[simp] theorem setKeyLen_variant (v : Byte) : (setKeyLen v s).variant = s.variant := rfl
@[simp] theorem setKeyLen_nk (v : Byte) : (setKeyLen v s).nk = s.nk := rfl
@[simp] theorem setKeyLen_nr (v : Byte) : (setKeyLen v s).nr = s.nr := rfl
@[simp] theorem setKeyLen_errCode (v : Byte) : (setKeyLen v s).errCode = s.errCode := rfl
@[simp] theorem setKeyLen_pending (v : Byte) : (setKeyLen v s).pending = s.pending := rfl
@[simp] theorem setKeyLen_response (v : Byte) : (setKeyLen v s).response = s.response := rfl
@[simp] theorem setKeyLen_freeCount (v : Byte) : (setKeyLen v s).freeCount = s.freeCount := rfl

@[simp] theorem setBlkLen_key (v : Byte) : (setBlkLen v s).key = s.key := rfl
@[simp] theorem setBlkLen_keyLen (v : Byte) : (setBlkLen v s).keyLen = s.keyLen := rfl
@[simp] theorem setBlkLen_blkLen (v : Byte) : (setBlkLen v s).blkLen = v := rfl
@[simp] theorem setBlkLen_block (v : Byte) : (setBlkLen v s).block = s.block := rfl
@[simp] theorem setBlkLen_opw (v : Byte) : (setBlkLen v s).opw = s.opw := rfl
@[simp] theorem setBlkLen_result (v : Byte) : (setBlkLen v s).result = s.result := rfl
@[simp] theorem setBlkLen_w (v : Byte) : (setBlkLen v s).w = s.w := rfl
@[simp] theorem setBlkLen_rkSel (v : Byte) : (setBlkLen v s).rkSel = s.rkSel := rfl
@[simp] theorem setBlkLen_sv (v : Byte) : (setBlkLen v s).sv = s.sv := rfl
@[simp] theorem setBlkLen_variant (v : Byte) : (setBlkLen v s).variant = s.variant := rfl
@[simp] theorem setBlkLen_nk (v : Byte) : (setBlkLen v s).nk = s.nk := rfl
@[simp] theorem setBlkLen_nr (v : Byte) : (setBlkLen v s).nr = s.nr := rfl
@[simp] theorem setBlkLen_errCode (v : Byte) : (setBlkLen v s).errCode = s.errCode := rfl
@[simp] theorem setBlkLen_pending (v : Byte) : (setBlkLen v s).pending = s.pending := rfl
@[simp] theorem setBlkLen_response (v : Byte) : (setBlkLen v s).response = s.response := rfl
@[simp] theorem setBlkLen_freeCount (v : Byte) : (setBlkLen v s).freeCount = s.freeCount := rfl

@[simp] theorem setBlock_key (b : Block) : (setBlock b s).key = s.key := rfl
@[simp] theorem setBlock_keyLen (b : Block) : (setBlock b s).keyLen = s.keyLen := rfl
@[simp] theorem setBlock_blkLen (b : Block) : (setBlock b s).blkLen = s.blkLen := rfl
@[simp] theorem setBlock_block (b : Block) : (setBlock b s).block = b := rfl
@[simp] theorem setBlock_opw (b : Block) : (setBlock b s).opw = s.opw := rfl
@[simp] theorem setBlock_result (b : Block) : (setBlock b s).result = s.result := rfl
@[simp] theorem setBlock_w (b : Block) : (setBlock b s).w = s.w := rfl
@[simp] theorem setBlock_rkSel (b : Block) : (setBlock b s).rkSel = s.rkSel := rfl
@[simp] theorem setBlock_sv (b : Block) : (setBlock b s).sv = s.sv := rfl
@[simp] theorem setBlock_variant (b : Block) : (setBlock b s).variant = s.variant := rfl
@[simp] theorem setBlock_nk (b : Block) : (setBlock b s).nk = s.nk := rfl
@[simp] theorem setBlock_nr (b : Block) : (setBlock b s).nr = s.nr := rfl
@[simp] theorem setBlock_errCode (b : Block) : (setBlock b s).errCode = s.errCode := rfl
@[simp] theorem setBlock_pending (b : Block) : (setBlock b s).pending = s.pending := rfl
@[simp] theorem setBlock_response (b : Block) : (setBlock b s).response = s.response := rfl
@[simp] theorem setBlock_freeCount (b : Block) : (setBlock b s).freeCount = s.freeCount := rfl

@[simp] theorem setOpw_key (v : Word) : (setOpw v s).key = s.key := rfl
@[simp] theorem setOpw_keyLen (v : Word) : (setOpw v s).keyLen = s.keyLen := rfl
@[simp] theorem setOpw_blkLen (v : Word) : (setOpw v s).blkLen = s.blkLen := rfl
@[simp] theorem setOpw_block (v : Word) : (setOpw v s).block = s.block := rfl
@[simp] theorem setOpw_opw (v : Word) : (setOpw v s).opw = v := rfl
@[simp] theorem setOpw_result (v : Word) : (setOpw v s).result = s.result := rfl
@[simp] theorem setOpw_w (v : Word) : (setOpw v s).w = s.w := rfl
@[simp] theorem setOpw_rkSel (v : Word) : (setOpw v s).rkSel = s.rkSel := rfl
@[simp] theorem setOpw_sv (v : Word) : (setOpw v s).sv = s.sv := rfl
@[simp] theorem setOpw_variant (v : Word) : (setOpw v s).variant = s.variant := rfl
@[simp] theorem setOpw_nk (v : Word) : (setOpw v s).nk = s.nk := rfl
@[simp] theorem setOpw_nr (v : Word) : (setOpw v s).nr = s.nr := rfl
@[simp] theorem setOpw_errCode (v : Word) : (setOpw v s).errCode = s.errCode := rfl
@[simp] theorem setOpw_pending (v : Word) : (setOpw v s).pending = s.pending := rfl
@[simp] theorem setOpw_response (v : Word) : (setOpw v s).response = s.response := rfl
@[simp] theorem setOpw_freeCount (v : Word) : (setOpw v s).freeCount = s.freeCount := rfl

@[simp] theorem setResult_key (v : Word) : (setResult v s).key = s.key := rfl
@[simp] theorem setResult_keyLen (v : Word) : (setResult v s).keyLen = s.keyLen := rfl
@[simp] theorem setResult_blkLen (v : Word) : (setResult v s).blkLen = s.blkLen := rfl
@[simp] theorem setResult_block (v : Word) : (setResult v s).block = s.block := rfl
@[simp] theorem setResult_opw (v : Word) : (setResult v s).opw = s.opw := rfl
@[simp] theorem setResult_result (v : Word) : (setResult v s).result = v := rfl
@[simp] theorem setResult_w (v : Word) : (setResult v s).w = s.w := rfl
@[simp] theorem setResult_rkSel (v : Word) : (setResult v s).rkSel = s.rkSel := rfl
@[simp] theorem setResult_sv (v : Word) : (setResult v s).sv = s.sv := rfl
@[simp] theorem setResult_variant (v : Word) : (setResult v s).variant = s.variant := rfl
@[simp] theorem setResult_nk (v : Word) : (setResult v s).nk = s.nk := rfl
@[simp] theorem setResult_nr (v : Word) : (setResult v s).nr = s.nr := rfl
@[simp] theorem setResult_errCode (v : Word) : (setResult v s).errCode = s.errCode := rfl
@[simp] theorem setResult_pending (v : Word) : (setResult v s).pending = s.pending := rfl
@[simp] theorem setResult_response (v : Word) : (setResult v s).response = s.response := rfl
@[simp] theorem setResult_freeCount (v : Word) : (setResult v s).freeCount = s.freeCount := rfl

@[simp] theorem setRkSel_key (v : BitVec 4) : (setRkSel v s).key = s.key := rfl
@[simp] theorem setRkSel_keyLen (v : BitVec 4) : (setRkSel v s).keyLen = s.keyLen := rfl
@[simp] theorem setRkSel_blkLen (v : BitVec 4) : (setRkSel v s).blkLen = s.blkLen := rfl
@[simp] theorem setRkSel_block (v : BitVec 4) : (setRkSel v s).block = s.block := rfl
@[simp] theorem setRkSel_opw (v : BitVec 4) : (setRkSel v s).opw = s.opw := rfl
@[simp] theorem setRkSel_result (v : BitVec 4) : (setRkSel v s).result = s.result := rfl
@[simp] theorem setRkSel_w (v : BitVec 4) : (setRkSel v s).w = s.w := rfl
@[simp] theorem setRkSel_rkSel (v : BitVec 4) : (setRkSel v s).rkSel = v := rfl
@[simp] theorem setRkSel_sv (v : BitVec 4) : (setRkSel v s).sv = s.sv := rfl
@[simp] theorem setRkSel_variant (v : BitVec 4) : (setRkSel v s).variant = s.variant := rfl
@[simp] theorem setRkSel_nk (v : BitVec 4) : (setRkSel v s).nk = s.nk := rfl
@[simp] theorem setRkSel_nr (v : BitVec 4) : (setRkSel v s).nr = s.nr := rfl
@[simp] theorem setRkSel_errCode (v : BitVec 4) : (setRkSel v s).errCode = s.errCode := rfl
@[simp] theorem setRkSel_pending (v : BitVec 4) : (setRkSel v s).pending = s.pending := rfl
@[simp] theorem setRkSel_response (v : BitVec 4) : (setRkSel v s).response = s.response := rfl
@[simp] theorem setRkSel_freeCount (v : BitVec 4) : (setRkSel v s).freeCount = s.freeCount := rfl

@[simp] theorem setErrCode_key (c : BitVec 4) : (setErrCode c s).key = s.key := rfl
@[simp] theorem setErrCode_keyLen (c : BitVec 4) : (setErrCode c s).keyLen = s.keyLen := rfl
@[simp] theorem setErrCode_blkLen (c : BitVec 4) : (setErrCode c s).blkLen = s.blkLen := rfl
@[simp] theorem setErrCode_block (c : BitVec 4) : (setErrCode c s).block = s.block := rfl
@[simp] theorem setErrCode_opw (c : BitVec 4) : (setErrCode c s).opw = s.opw := rfl
@[simp] theorem setErrCode_result (c : BitVec 4) : (setErrCode c s).result = s.result := rfl
@[simp] theorem setErrCode_w (c : BitVec 4) : (setErrCode c s).w = s.w := rfl
@[simp] theorem setErrCode_rkSel (c : BitVec 4) : (setErrCode c s).rkSel = s.rkSel := rfl
@[simp] theorem setErrCode_sv (c : BitVec 4) : (setErrCode c s).sv = s.sv := rfl
@[simp] theorem setErrCode_variant (c : BitVec 4) : (setErrCode c s).variant = s.variant := rfl
@[simp] theorem setErrCode_nk (c : BitVec 4) : (setErrCode c s).nk = s.nk := rfl
@[simp] theorem setErrCode_nr (c : BitVec 4) : (setErrCode c s).nr = s.nr := rfl
@[simp] theorem setErrCode_errCode (c : BitVec 4) : (setErrCode c s).errCode = c := rfl
@[simp] theorem setErrCode_pending (c : BitVec 4) : (setErrCode c s).pending = s.pending := rfl
@[simp] theorem setErrCode_response (c : BitVec 4) : (setErrCode c s).response = s.response := rfl
@[simp] theorem setErrCode_freeCount (c : BitVec 4) : (setErrCode c s).freeCount = s.freeCount := rfl

@[simp] theorem setSchedule_key (v : Variant) (w : Store) : (setSchedule v w s).key = s.key := rfl
@[simp] theorem setSchedule_keyLen (v : Variant) (w : Store) : (setSchedule v w s).keyLen = s.keyLen := rfl
@[simp] theorem setSchedule_blkLen (v : Variant) (w : Store) : (setSchedule v w s).blkLen = s.blkLen := rfl
@[simp] theorem setSchedule_block (v : Variant) (w : Store) : (setSchedule v w s).block = s.block := rfl
@[simp] theorem setSchedule_opw (v : Variant) (w : Store) : (setSchedule v w s).opw = s.opw := rfl
@[simp] theorem setSchedule_result (v : Variant) (w : Store) : (setSchedule v w s).result = s.result := rfl
@[simp] theorem setSchedule_w (v : Variant) (w : Store) : (setSchedule v w s).w = w := rfl
@[simp] theorem setSchedule_rkSel (v : Variant) (w : Store) : (setSchedule v w s).rkSel = s.rkSel := rfl
@[simp] theorem setSchedule_sv (v : Variant) (w : Store) : (setSchedule v w s).sv = true := rfl
@[simp] theorem setSchedule_variant (v : Variant) (w : Store) : (setSchedule v w s).variant = v.code := rfl
@[simp] theorem setSchedule_nk (v : Variant) (w : Store) : (setSchedule v w s).nk = BitVec.ofNat 4 v.nk := rfl
@[simp] theorem setSchedule_nr (v : Variant) (w : Store) : (setSchedule v w s).nr = BitVec.ofNat 4 v.nr := rfl
@[simp] theorem setSchedule_errCode (v : Variant) (w : Store) : (setSchedule v w s).errCode = s.errCode := rfl
@[simp] theorem setSchedule_pending (v : Variant) (w : Store) : (setSchedule v w s).pending = s.pending := rfl
@[simp] theorem setSchedule_response (v : Variant) (w : Store) : (setSchedule v w s).response = s.response := rfl
@[simp] theorem setSchedule_freeCount (v : Variant) (w : Store) : (setSchedule v w s).freeCount = s.freeCount := rfl

@[simp] theorem invalidate_key : (invalidate s).key = s.key := rfl
@[simp] theorem invalidate_keyLen : (invalidate s).keyLen = s.keyLen := rfl
@[simp] theorem invalidate_blkLen : (invalidate s).blkLen = s.blkLen := rfl
@[simp] theorem invalidate_block : (invalidate s).block = s.block := rfl
@[simp] theorem invalidate_opw : (invalidate s).opw = s.opw := rfl
@[simp] theorem invalidate_result : (invalidate s).result = s.result := rfl
@[simp] theorem invalidate_w : (invalidate s).w = s.w := rfl
@[simp] theorem invalidate_rkSel : (invalidate s).rkSel = s.rkSel := rfl
@[simp] theorem invalidate_sv : (invalidate s).sv = false := rfl
@[simp] theorem invalidate_variant : (invalidate s).variant = 0 := rfl
@[simp] theorem invalidate_nk : (invalidate s).nk = 0 := rfl
@[simp] theorem invalidate_nr : (invalidate s).nr = 0 := rfl
@[simp] theorem invalidate_errCode : (invalidate s).errCode = s.errCode := rfl
@[simp] theorem invalidate_pending : (invalidate s).pending = s.pending := rfl
@[simp] theorem invalidate_response : (invalidate s).response = s.response := rfl
@[simp] theorem invalidate_freeCount : (invalidate s).freeCount = s.freeCount := rfl

@[simp] theorem setPending_key (l : List HostEvent) : (setPending l s).key = s.key := rfl
@[simp] theorem setPending_keyLen (l : List HostEvent) : (setPending l s).keyLen = s.keyLen := rfl
@[simp] theorem setPending_blkLen (l : List HostEvent) : (setPending l s).blkLen = s.blkLen := rfl
@[simp] theorem setPending_block (l : List HostEvent) : (setPending l s).block = s.block := rfl
@[simp] theorem setPending_opw (l : List HostEvent) : (setPending l s).opw = s.opw := rfl
@[simp] theorem setPending_result (l : List HostEvent) : (setPending l s).result = s.result := rfl
@[simp] theorem setPending_w (l : List HostEvent) : (setPending l s).w = s.w := rfl
@[simp] theorem setPending_rkSel (l : List HostEvent) : (setPending l s).rkSel = s.rkSel := rfl
@[simp] theorem setPending_sv (l : List HostEvent) : (setPending l s).sv = s.sv := rfl
@[simp] theorem setPending_variant (l : List HostEvent) : (setPending l s).variant = s.variant := rfl
@[simp] theorem setPending_nk (l : List HostEvent) : (setPending l s).nk = s.nk := rfl
@[simp] theorem setPending_nr (l : List HostEvent) : (setPending l s).nr = s.nr := rfl
@[simp] theorem setPending_errCode (l : List HostEvent) : (setPending l s).errCode = s.errCode := rfl
@[simp] theorem setPending_pending (l : List HostEvent) : (setPending l s).pending = l := rfl
@[simp] theorem setPending_response (l : List HostEvent) : (setPending l s).response = s.response := rfl
@[simp] theorem setPending_freeCount (l : List HostEvent) : (setPending l s).freeCount = s.freeCount := rfl

@[simp] theorem respond_key (r : Option Response) : (respond r s).key = s.key := rfl
@[simp] theorem respond_keyLen (r : Option Response) : (respond r s).keyLen = s.keyLen := rfl
@[simp] theorem respond_blkLen (r : Option Response) : (respond r s).blkLen = s.blkLen := rfl
@[simp] theorem respond_block (r : Option Response) : (respond r s).block = s.block := rfl
@[simp] theorem respond_opw (r : Option Response) : (respond r s).opw = s.opw := rfl
@[simp] theorem respond_result (r : Option Response) : (respond r s).result = s.result := rfl
@[simp] theorem respond_w (r : Option Response) : (respond r s).w = s.w := rfl
@[simp] theorem respond_rkSel (r : Option Response) : (respond r s).rkSel = s.rkSel := rfl
@[simp] theorem respond_sv (r : Option Response) : (respond r s).sv = s.sv := rfl
@[simp] theorem respond_variant (r : Option Response) : (respond r s).variant = s.variant := rfl
@[simp] theorem respond_nk (r : Option Response) : (respond r s).nk = s.nk := rfl
@[simp] theorem respond_nr (r : Option Response) : (respond r s).nr = s.nr := rfl
@[simp] theorem respond_errCode (r : Option Response) : (respond r s).errCode = s.errCode := rfl
@[simp] theorem respond_pending (r : Option Response) : (respond r s).pending = s.pending := rfl
@[simp] theorem respond_response (r : Option Response) : (respond r s).response = r := rfl
@[simp] theorem respond_freeCount (r : Option Response) : (respond r s).freeCount = s.freeCount := rfl

@[simp] theorem takeFree_key : (takeFree s).key = s.key := rfl
@[simp] theorem takeFree_keyLen : (takeFree s).keyLen = s.keyLen := rfl
@[simp] theorem takeFree_blkLen : (takeFree s).blkLen = s.blkLen := rfl
@[simp] theorem takeFree_block : (takeFree s).block = s.block := rfl
@[simp] theorem takeFree_opw : (takeFree s).opw = s.opw := rfl
@[simp] theorem takeFree_result : (takeFree s).result = s.result := rfl
@[simp] theorem takeFree_w : (takeFree s).w = s.w := rfl
@[simp] theorem takeFree_rkSel : (takeFree s).rkSel = s.rkSel := rfl
@[simp] theorem takeFree_sv : (takeFree s).sv = s.sv := rfl
@[simp] theorem takeFree_variant : (takeFree s).variant = s.variant := rfl
@[simp] theorem takeFree_nk : (takeFree s).nk = s.nk := rfl
@[simp] theorem takeFree_nr : (takeFree s).nr = s.nr := rfl
@[simp] theorem takeFree_errCode : (takeFree s).errCode = s.errCode := rfl
@[simp] theorem takeFree_pending : (takeFree s).pending = s.pending := rfl
@[simp] theorem takeFree_response : (takeFree s).response = s.response := rfl
@[simp] theorem takeFree_freeCount : (takeFree s).freeCount = s.freeCount + 1 := rfl

@[simp] theorem resetRegisters_key : (resetRegisters s).key = State.reset.key := rfl
@[simp] theorem resetRegisters_keyLen : (resetRegisters s).keyLen = State.reset.keyLen := rfl
@[simp] theorem resetRegisters_blkLen : (resetRegisters s).blkLen = State.reset.blkLen := rfl
@[simp] theorem resetRegisters_block : (resetRegisters s).block = State.reset.block := rfl
@[simp] theorem resetRegisters_opw : (resetRegisters s).opw = State.reset.opw := rfl
@[simp] theorem resetRegisters_result : (resetRegisters s).result = State.reset.result := rfl
@[simp] theorem resetRegisters_w : (resetRegisters s).w = State.reset.w := rfl
@[simp] theorem resetRegisters_rkSel : (resetRegisters s).rkSel = State.reset.rkSel := rfl
@[simp] theorem resetRegisters_sv : (resetRegisters s).sv = State.reset.sv := rfl
@[simp] theorem resetRegisters_variant : (resetRegisters s).variant = State.reset.variant := rfl
@[simp] theorem resetRegisters_nk : (resetRegisters s).nk = State.reset.nk := rfl
@[simp] theorem resetRegisters_nr : (resetRegisters s).nr = State.reset.nr := rfl
@[simp] theorem resetRegisters_errCode : (resetRegisters s).errCode = State.reset.errCode := rfl
@[simp] theorem resetRegisters_pending : (resetRegisters s).pending = s.pending := rfl
@[simp] theorem resetRegisters_response : (resetRegisters s).response = s.response := rfl
@[simp] theorem resetRegisters_freeCount : (resetRegisters s).freeCount = s.freeCount := rfl

end Sys2Proof.Machine.State
end

