-- ==== Sys2Proof/Laws/Ops.lean ====
section
/-! SUPPORT. What the shared operations do, said once each: the byte and column forms, the round-key
store, the outcomes of the shared meanings, the window and the step. -/

namespace Sys2Proof

/-! ### Words and bytes (00_scope.md R11) -/

theorem toNat_append_eq {n m : Nat} (x : BitVec n) (y : BitVec m) :
    (x ++ y).toNat = x.toNat * 2 ^ m + y.toNat := by
  rw [BitVec.toNat_append, Nat.shiftLeft_eq, Nat.mul_comm, ← Nat.two_pow_add_eq_or_of_lt y.isLt]

/-- The word as the number its bytes write, byte 0 the most significant. -/
theorem toNat_wordOf (a b c d : Byte) : (wordOf a b c d).toNat =
    a.toNat * 2 ^ 24 + b.toNat * 2 ^ 16 + c.toNat * 2 ^ 8 + d.toNat := by
  have h : (wordOf a b c d).toNat = (((a ++ b) ++ c) ++ d).toNat := rfl
  rw [h, toNat_append_eq, toNat_append_eq, toNat_append_eq]
  omega

theorem toNat_byteOf (w : Word) (j : Fin 4) :
    (byteOf w j).toNat = w.toNat / 2 ^ (24 - 8 * j.val) % 256 := by
  fin_cases j <;> simp [byteOf, Nat.shiftRight_eq_div_pow]

/-- The bytes of a word made of bytes are those bytes. -/
theorem byteOf_wordOf (a b c d : Byte) :
    byteOf (wordOf a b c d) 0 = a ∧ byteOf (wordOf a b c d) 1 = b ∧
    byteOf (wordOf a b c d) 2 = c ∧ byteOf (wordOf a b c d) 3 = d := by
  refine ⟨?_, ?_, ?_, ?_⟩ <;> apply BitVec.eq_of_toNat_eq <;> rw [toNat_byteOf, toNat_wordOf] <;>
    simp <;> omega

@[simp] theorem byteOf_wordOf_zero (a b c d : Byte) : byteOf (wordOf a b c d) 0 = a :=
  (byteOf_wordOf a b c d).1

@[simp] theorem byteOf_wordOf_one (a b c d : Byte) : byteOf (wordOf a b c d) 1 = b :=
  (byteOf_wordOf a b c d).2.1

@[simp] theorem byteOf_wordOf_two (a b c d : Byte) : byteOf (wordOf a b c d) 2 = c :=
  (byteOf_wordOf a b c d).2.2.1

@[simp] theorem byteOf_wordOf_three (a b c d : Byte) : byteOf (wordOf a b c d) 3 = d :=
  (byteOf_wordOf a b c d).2.2.2

/-- A word is the word of its four bytes. -/
@[simp] theorem wordOf_byteOf (w : Word) :
    wordOf (byteOf w 0) (byteOf w 1) (byteOf w 2) (byteOf w 3) = w := by
  apply BitVec.eq_of_toNat_eq
  simp only [toNat_wordOf, toNat_byteOf]
  simp
  omega

/-! ### The state matrix -/

namespace Block

@[simp] theorem entry_build (f : Fin 4 → Fin 4 → Byte) (r c : Fin 4) : entry (build f) r c = f r c := by
  revert r c; simp [entry, build, Fin.forall_fin_succ]

/-- Two matrices with the same entries are the same. -/
theorem eq_of_entry {s t : Block} (h : ∀ r c, entry s r c = entry t r c) : s = t := by
  apply Vector.ext; intro r hr
  apply Vector.ext; intro c hc
  exact h ⟨r, hr⟩ ⟨c, hc⟩

@[simp] theorem build_entry (s : Block) : (build fun r c => entry s r c) = s :=
  eq_of_entry fun r c => by simp

/-- Byte j of STATE[c] is s[j][c] (10_state.md R38). -/
@[simp] theorem byteOf_column (s : Block) (c j : Fin 4) : byteOf (column s c) j = entry s j c := by
  fin_cases j <;> simp [column]

@[simp] theorem column_setColumn_self (s : Block) (c : Fin 4) (v : Word) :
    column (setColumn s c v) c = v := by
  simp [column, setColumn]

theorem column_setColumn_other (s : Block) {c d : Fin 4} (v : Word) (h : d ≠ c) :
    column (setColumn s c v) d = column s d := by
  simp [column, setColumn, h]

/-- Two matrices with the same columns are the same. -/
theorem eq_of_column {s t : Block} (h : ∀ c, column s c = column t c) : s = t :=
  eq_of_entry fun r c => by rw [← byteOf_column, h, byteOf_column]

end Block

/-! ### The round-key store -/

theorem storeWord_of_lt (w : Store) {i : Nat} (h : i < 60) : storeWord w i = w[i] := by
  simp [storeWord, h]

theorem storeWord_buildStore (f : Nat → Word) {i : Nat} (h : i < 60) :
    storeWord (buildStore f) i = f i := by
  simp [storeWord, buildStore, h]

/-- Two stores with the same sixty words are the same. -/
theorem store_eq_of_storeWord {w w' : Store} (h : ∀ i < 60, storeWord w i = storeWord w' i) : w = w' := by
  apply Vector.ext; intro i hi
  simpa [storeWord, hi] using h i hi

/-- An expansion of n words has n words. -/
@[simp] theorem length_expandRev (key : Vector Word 8) (nk n : Nat) :
    (expandRev key nk n).length = n := by
  induction n with
  | zero => rfl
  | succ n ih => simp [expandRev, ih]

/-- A longer expansion continues a shorter one: word i, counted from the end, does not depend on how far
the expansion goes on. -/
theorem getElem?_expandRev (key : Vector Word 8) (nk : Nat) {i n : Nat} (h : i < n) :
    (expandRev key nk n)[n - 1 - i]? = (expandRev key nk (i + 1)).head? := by
  induction n with
  | zero => omega
  | succ n ih =>
    rcases Nat.lt_or_ge i n with hi | hi
    · have : n + 1 - 1 - i = (n - 1 - i) + 1 := by omega
      rw [this, expandRev, List.getElem?_cons_succ, ih hi]
    · obtain rfl : i = n := by omega
      simp [expandRev]

/-! ### Selection of the variant (44_key_schedule.md R180) -/

/-- The key length a variant is selected by. -/
theorem selectVariant_eq_some {k : Byte} {v : Variant} :
    selectVariant k = some v ↔
      (k = 16#8 ∧ v = .aes128) ∨ (k = 24#8 ∧ v = .aes192) ∨ (k = 32#8 ∧ v = .aes256) := by
  unfold selectVariant
  split
  · subst_vars; simp [eq_comm]
  · split
    · subst_vars; simp [eq_comm]
    · split
      · subst_vars; simp [eq_comm]
      · simp_all

theorem selectVariant_eq_none {k : Byte} :
    selectVariant k = none ↔ k ≠ 16#8 ∧ k ≠ 24#8 ∧ k ≠ 32#8 := by
  unfold selectVariant
  split
  · simp_all
  · split
    · simp_all
    · split <;> simp_all

namespace Machine

/-! ### The outcomes of the shared meanings -/

@[simp] theorem onNext_next (s : State) (f : State → State) : onNext (.next s) f = .next (f s) := rfl

/-- A failing command writes ERRCODE and nothing else. -/
@[simp] theorem raiseCmdError_eq (e : CmdError) (s : State) :
    raiseCmdError e s = .next (s.setErrCode e.code) := rfl

@[simp] theorem scalar_eq (v : Word) (s : State) :
    scalar v s = .next ((s.setResult v).setErrCode 0) := rfl

@[simp] theorem transform_eq (f : Block → Block) (s : State) :
    transform f s = .next ((s.setBlock (f s.block)).setErrCode 0) := rfl

/-- EXPAND with a legal key length loads the schedule. -/
theorem execExpand_of_some {s : State} {v : Variant} (h : selectVariant s.keyLen = some v) :
    execExpand s = .next (succeed (loadSchedule v s)) := by
  simp [execExpand, h]

/-- EXPAND with an illegal key length fails. -/
theorem execExpand_of_none {s : State} (h : selectVariant s.keyLen = none) :
    execExpand s = raiseCmdError .invalidKeyLength s := by
  simp [execExpand, h]

/-- Everything a cipher command can do: fail on KEYLEN, fail on BLKLEN, or run the pipeline. -/
theorem runCipher_cases (pipeline : Store → Nat → Block → Block) (s : State) :
    (selectVariant s.keyLen = none ∧
      runCipher pipeline s = raiseCmdError .invalidKeyLength s) ∨
    (∃ v, selectVariant s.keyLen = some v ∧ s.blkLen ≠ Config.blockBytes ∧
      runCipher pipeline s = raiseCmdError .invalidBlockLength s) ∨
    (∃ v, selectVariant s.keyLen = some v ∧ s.blkLen = Config.blockBytes ∧
      runCipher pipeline s =
        .next (succeed ((loadSchedule v s).setBlock
          (pipeline (schedule s.key v) v.nr s.block)))) := by
  unfold runCipher
  cases h : selectVariant s.keyLen with
  | none => exact .inl ⟨rfl, rfl⟩
  | some v =>
    by_cases hb : s.blkLen = Config.blockBytes
    · exact .inr (.inr ⟨v, rfl, hb, by simp [hb]⟩)
    · exact .inr (.inl ⟨v, rfl, hb, by simp [hb]⟩)

/-- Everything ADDRK can do. -/
theorem execAddrk_cases (r : Nat) (s : State) :
    (s.sv = false ∧ execAddrk r s = raiseCmdError .scheduleNotValid s) ∨
    (s.sv = true ∧ s.nr.toNat < r ∧ execAddrk r s = raiseCmdError .roundOutOfRange s) ∨
    (s.sv = true ∧ r ≤ s.nr.toNat ∧ execAddrk r s = transform (addRoundKey s.w r) s) := by
  unfold execAddrk
  cases h : s.sv with
  | false => exact .inl ⟨rfl, rfl⟩
  | true =>
    by_cases hr : s.nr.toNat < r
    · exact .inr (.inl ⟨rfl, hr, by simp [hr]⟩)
    · exact .inr (.inr ⟨rfl, by omega, by simp [hr]⟩)

/-! ### The window and the step -/

theorem execute_of_command {v : Word} {i : Instr} (h : decode v = .command i) (s : State) :
    execute v s = exec i s := by
  simp [execute, h]

theorem execute_of_illegal {v : Word} {why : IllegalWord} (h : decode v = .illegal why) (s : State) :
    execute v s = raiseCmdError .illegalCommand s := by
  simp [execute, h]

/-- The check passes for a 32-bit access at a mapped multiple of 4, and for no other. -/
theorem checkAccess_eq_some {off : Offset} {size : AccessSize} {r : Reg} :
    checkAccess off size = some r ↔
      size = .word ∧ off.extractLsb' 0 2 = 0#2 ∧ regAt off = some r := by
  unfold checkAccess
  split <;> simp_all

/-- The offset of a register is where the map holds it. -/
@[simp] theorem regAt_regOffset (r : Reg) : regAt (regOffset r) = some r := by
  cases r with
  | key j => revert j; decide
  | state c => revert c; decide
  | rkOut c => revert c; decide
  | _ => rfl

/-- A 32-bit access to a register of the map passes the check. -/
@[simp] theorem checkAccess_regOffset (r : Reg) : checkAccess (regOffset r) .word = some r := by
  rw [checkAccess_eq_some]
  refine ⟨rfl, ?_, regAt_regOffset r⟩
  cases r with
  | key j => revert j; decide
  | state c => revert c; decide
  | rkOut c => revert c; decide
  | _ => rfl

theorem serve_write_regOffset (r : Reg) (v : Word) (s : State) :
    serve (.write (regOffset r) .word v) s =
      match writeReg r v s with
      | some o => onNext o (State.respond (some .okay))
      | none => .next (s.respond (some .error)) := by
  cases h : writeReg r v s <;> simp [serve, memWrite, h]

theorem serve_read_regOffset (r : Reg) (s : State) :
    serve (.read (regOffset r) .word) s =
      match readReg r s with
      | some v => .next (s.respond (some (.okayData v)))
      | none => .next (s.respond (some .error)) := by
  cases h : readReg r s <;> simp [serve, memRead, h]

/-- A step with an event pending serves the oldest. -/
theorem step_of_cons {s : State} {e : HostEvent} {rest : List HostEvent} (h : s.pending = e :: rest) :
    step s = serveEvent e (s.setPending rest) := by
  simp [step, serveNext, h]

end Machine

end Sys2Proof
end

