-- ==== Sys2Proof/Laws/PerInstr.lean ====
section
/-! SUPPORT. Facts proved constructor by constructor. The family Reserved: "23:8 reserved, must be zero in
every format" (30_encoding.md R100) holds of the word of every well-formed command. -/

namespace Sys2Proof.Laws.Reserved

/-- Bits 23:8 of the encoded command are zero. -/
def Statement (i : Instr) : Prop := WellFormed i = true → (encode i).extractLsb' 8 16 = 0#16

/-- A command word whose operand is a byte has zero in bits 23:8. -/
theorem reserved_of_byte (opc : Byte) {x : BitVec 24} (h : x.toNat ≤ 255) :
    (commandWord opc x).extractLsb' 8 16 = 0#16 := by
  apply BitVec.eq_of_toNat_eq
  simp only [commandWord, BitVec.extractLsb'_toNat, BitVec.toNat_append, BitVec.toNat_ofNat]
  rw [Nat.shiftLeft_eq, Nat.mul_comm, ← Nat.two_pow_add_eq_or_of_lt x.isLt, Nat.shiftRight_eq_div_pow]
  omega

theorem reserved_of_operand (opc b : Byte) :
    (commandWord opc (b.setWidth 24)).extractLsb' 8 16 = 0#16 :=
  reserved_of_byte opc (by simp; omega)

theorem xtime (b : Byte) : Statement (.xtime b) := fun _ => reserved_of_operand _ b
theorem gmul3 (b : Byte) : Statement (.gmul3 b) := fun _ => reserved_of_operand _ b
theorem gmul9 (b : Byte) : Statement (.gmul9 b) := fun _ => reserved_of_operand _ b
theorem gmul11 (b : Byte) : Statement (.gmul11 b) := fun _ => reserved_of_operand _ b
theorem gmul13 (b : Byte) : Statement (.gmul13 b) := fun _ => reserved_of_operand _ b
theorem gmul14 (b : Byte) : Statement (.gmul14 b) := fun _ => reserved_of_operand _ b
theorem sbox (x : Byte) : Statement (.sbox x) := fun _ => reserved_of_operand _ x
theorem isbox (y : Byte) : Statement (.isbox y) := fun _ => reserved_of_operand _ y

theorem rcon (n : Nat) : Statement (.rcon n) := fun h =>
  reserved_of_byte _ (by simp [WellFormed] at h; simp; omega)

theorem rotword : Statement .rotword := fun _ => reserved_of_byte _ (by decide)
theorem subword : Statement .subword := fun _ => reserved_of_byte _ (by decide)
theorem expand : Statement .expand := fun _ => reserved_of_byte _ (by decide)

theorem addrk (r : Nat) : Statement (.addrk r) := fun h =>
  reserved_of_byte _ (by simp [WellFormed] at h; simp; omega)

theorem subbytes : Statement .subbytes := fun _ => reserved_of_byte _ (by decide)
theorem invsubbytes : Statement .invsubbytes := fun _ => reserved_of_byte _ (by decide)
theorem shiftrows : Statement .shiftrows := fun _ => reserved_of_byte _ (by decide)
theorem invshiftrows : Statement .invshiftrows := fun _ => reserved_of_byte _ (by decide)
theorem mixcolumns : Statement .mixcolumns := fun _ => reserved_of_byte _ (by decide)
theorem invmixcolumns : Statement .invmixcolumns := fun _ => reserved_of_byte _ (by decide)
theorem encrypt : Statement .encrypt := fun _ => reserved_of_byte _ (by decide)
theorem decrypt : Statement .decrypt := fun _ => reserved_of_byte _ (by decide)

end Sys2Proof.Laws.Reserved
end

