-- ==== Sys2Proof/Tests/Slice0.lean ====
section
/-! SUPPORT. The model's own tests. The expected values are the spec's: the words are written out from
30_encoding.md and 95_test_vectors.md section 2.1, the results are those of 95_test_vectors.md (the
identifier V-... or P... stands beside each) or of the rule's own examples. After them, for every statement
of Certificates/Slice0/Obligations.lean that has hypotheses, a witness that meets them together. -/

namespace Sys2Proof.Tests

open Sys2Proof Sys2Proof.Machine Sys2Proof.Reference

/-! ### Helpers -/

/-- A field of the next state. -/
def peek {α : Type} (o : Result) (f : State → α) : Option α :=
  match o with
  | .next s => some (f s)
  | .fault _ => none
  | .refused _ => none

/-- The state after reset with the given state matrix, by columns. -/
def withColumns (c0 c1 c2 c3 : Word) : State := State.reset.setBlock (Block.ofColumns c0 c1 c2 c3)

/-- The columns of the state matrix. -/
def columns (s : State) : List Word := (List.finRange 4).map (Block.column s.block)

/-- The state matrix of 95_test_vectors.md section 2.6, S0. -/
def s0 : State := withColumns 0x00102030 0x40506070 0x8090a0b0 0xc0d0e0f0

/-- The key of V-C1 and the block of V-C1, loaded. -/
def kat1 : State :=
  { withColumns 0x00112233 0x44556677 0x8899aabb 0xccddeeff with
    key := #v[0x00010203, 0x04050607, 0x08090a0b, 0x0c0d0e0f, 0, 0, 0, 0], keyLen := 16, blkLen := 16 }

/-- The key of V-C6 and the ciphertext of V-C6, loaded. -/
def kat6 : State :=
  { withColumns 0x8ea2b7ca 0x516745bf 0xeafc4990 0x4b496089 with
    key := #v[0x00010203, 0x04050607, 0x08090a0b, 0x0c0d0e0f,
      0x10111213, 0x14151617, 0x18191a1b, 0x1c1d1e1f], keyLen := 32, blkLen := 16 }

/-- The state after EXPAND of the all-zero 128-bit key. -/
def expanded : State := loadSchedule .aes128 { State.reset with keyLen := 16 }

/-- The state after reset, the transfer being the host's next event. -/
def asked (t : Transfer) : State := State.reset.setPending [.bus t]

/-! ### Well-formedness: an ill-formed term for each check -/

theorem test_wellFormed_rcon_index : WellFormed (.rcon 255) = true ∧ WellFormed (.rcon 256) = false := by
  decide

theorem test_wellFormed_addrk_round : WellFormed (.addrk 15) = true ∧ WellFormed (.addrk 16) = false := by
  decide

/-! ### Decoding: one word per command, bit by bit -/

theorem test_decode_galois :
    decode 0b00010000_00000000_00000000_01010111#32 = .command (.xtime 0x57) ∧
    decode 0b00010001_00000000_00000000_01010111#32 = .command (.gmul3 0x57) ∧
    decode 0b00010010_00000000_00000000_10000000#32 = .command (.gmul9 0x80) ∧
    decode 0b00010011_00000000_00000000_00000001#32 = .command (.gmul11 0x01) ∧
    decode 0b00010100_00000000_00000000_00000000#32 = .command (.gmul13 0x00) ∧
    decode 0b00010101_00000000_00000000_11111111#32 = .command (.gmul14 0xFF) := by decide

theorem test_decode_sbox_rcon :
    decode 0b00100000_00000000_00000000_01010011#32 = .command (.sbox 0x53) ∧
    decode 0b00100001_00000000_00000000_11101101#32 = .command (.isbox 0xED) ∧
    decode 0b00110000_00000000_00000000_00001001#32 = .command (.rcon 9) := by decide

theorem test_decode_keySchedule :
    decode 0b01000000_00000000_00000000_00000000#32 = .command .rotword ∧
    decode 0b01000001_00000000_00000000_00000000#32 = .command .subword ∧
    decode 0b01000010_00000000_00000000_00000000#32 = .command .expand := by decide

theorem test_decode_transforms :
    decode 0b01010000_00000000_00000000_00001010#32 = .command (.addrk 10) ∧
    decode 0b01010001_00000000_00000000_00000000#32 = .command .subbytes ∧
    decode 0b01010010_00000000_00000000_00000000#32 = .command .invsubbytes ∧
    decode 0b01010011_00000000_00000000_00000000#32 = .command .shiftrows ∧
    decode 0b01010100_00000000_00000000_00000000#32 = .command .invshiftrows ∧
    decode 0b01010101_00000000_00000000_00000000#32 = .command .mixcolumns ∧
    decode 0b01010110_00000000_00000000_00000000#32 = .command .invmixcolumns := by decide

theorem test_decode_cipher :
    decode 0b01100000_00000000_00000000_00000000#32 = .command .encrypt ∧
    decode 0b01100001_00000000_00000000_00000000#32 = .command .decrypt := by decide

/-- V-E8 to V-E14. -/
theorem test_decode_illegal :
    decode 0x00000000#32 = .illegal .unassignedOpcode ∧
    decode 0x16000000#32 = .illegal .unassignedOpcode ∧
    decode 0xFF000000#32 = .illegal .unassignedOpcode ∧
    decode 0x51000001#32 = .illegal .reservedBits ∧
    decode 0x50000010#32 = .illegal .reservedBits ∧
    decode 0x10010057#32 = .illegal .reservedBits ∧
    decode 0x40000001#32 = .illegal .reservedBits := by decide

/-- The examples of 30_encoding.md R108. -/
theorem test_encode_examples :
    encode (.xtime 0x57) = 0x10000057#32 ∧ encode (.rcon 9) = 0x30000009#32 ∧
    encode (.addrk 10) = 0x5000000A#32 ∧ encode .encrypt = 0x60000000#32 := by decide

theorem test_decodeTableWord : decodeTableWord 32 0x5000000F = some (.addrk 15) ∧
    decodeTableWord 32 0x50000010 = none := by decide

/-- The assembler of 30_encoding.md R108 and R110: an operand out of range is an assembly error. -/
theorem test_assemble : assemble "XTIME" (some 0x57) = some (.xtime 0x57) ∧
    assemble "GMUL2" (some 0x57) = some (.xtime 0x57) ∧ assemble "ADDRK" (some 16) = none ∧
    assemble "EXPAND" none = some .expand ∧ assemble "EXPAND" (some 0) = none := by decide +kernel

/-! ### The commands, by 95_test_vectors.md -/

/-- V-G8, V-G9, V-G12. -/
theorem test_xtime : peek (exec (.xtime 0x80) s0) State.result = some 0x1b ∧
    peek (exec (.xtime 0x8d) s0) State.result = some 0x01 ∧
    peek (exec (.xtime 0xff) s0) State.result = some 0xe5 := by decide

/-- V-G12. -/
theorem test_gmul : peek (exec (.gmul3 0xff) s0) State.result = some 0x1a ∧
    peek (exec (.gmul9 0xff) s0) State.result = some 0x46 ∧
    peek (exec (.gmul11 0xff) s0) State.result = some 0xa3 ∧
    peek (exec (.gmul13 0xff) s0) State.result = some 0x97 ∧
    peek (exec (.gmul14 0xff) s0) State.result = some 0x8d := by decide

/-- V-S7, V-S11. -/
theorem test_sbox : peek (exec (.sbox 0xc9) s0) State.result = some 0xdd ∧
    peek (exec (.isbox 0x52) s0) State.result = some 0x48 := by decide

/-- V-R3, V-R7, V-R8. -/
theorem test_rcon : peek (exec (.rcon 8) s0) State.result = some 0x1b ∧
    peek (exec (.rcon 100) s0) State.result = some 0xcb ∧
    peek (exec (.rcon 255) s0) State.result = some 0x01 := by decide +kernel

/-- V-K2. -/
theorem test_rotword :
    peek (exec .rotword (s0.setOpw 0x01020304)) State.result = some 0x02030401 := by decide

/-- V-K5. -/
theorem test_subword :
    peek (exec .subword (s0.setOpw 0x09cf4f3c)) State.result = some 0x018a84eb := by decide

/-- V-K7: RK10, and the status. -/
theorem test_expand_aes128 :
    peek (exec .expand kat1) (fun t => [t.w[40], t.w[41], t.w[42], t.w[43], t.w[44]]) =
      some [0x13111d7f, 0xe3944a17, 0xf307a78b, 0x4d2b30c5, 0] ∧
    peek (exec .expand kat1) statusWord = some 0x040a0101 := by decide +kernel

/-- V-K9: W[12] is the SubWord-only step, W[59] the last word. -/
theorem test_expand_aes256 :
    peek (exec .expand kat6) (fun t => [t.w[12], t.w[59]]) = some [0x1651a8cd, 0x6d68de36] := by
  decide +kernel

/-- V-T20: ADDRK 10 with the key of V-K7 expanded. -/
theorem test_addrk :
    peek (exec (.addrk 10) (loadSchedule .aes128 kat1)) columns =
      some [0x13003f4c, 0xa7c12c60, 0x7b9e0d30, 0x81f6de3a] := by decide +kernel

/-- V-T21, V-T23. -/
theorem test_addrk_errors : peek (exec (.addrk 11) expanded) State.errCode = some 5 ∧
    peek (exec (.addrk 0) State.reset) State.errCode = some 4 := by decide +kernel

/-- V-T1, V-T2. -/
theorem test_subbytes :
    peek (exec .subbytes s0) columns = some [0x63cab704, 0x0953d051, 0xcd60e0e7, 0xba70e18c] ∧
    peek (exec .invsubbytes s0) columns = some [0x527c5408, 0x726c90d0, 0x3a9647fc, 0x1f60a017] := by
  decide +kernel

/-- V-T3, V-T4. -/
theorem test_shiftrows :
    peek (exec .shiftrows s0) columns = some [0x0050a0f0, 0x4090e030, 0x80d02070, 0xc01060b0] ∧
    peek (exec .invshiftrows s0) columns =
      some [0x00d0a070, 0x4010e0b0, 0x805020f0, 0xc0906030] := by decide +kernel

/-- The two matrices as R215 and R216 print them, row by row. -/
theorem test_matrix_rows :
    mixMatrix.toList.map (·.toList) = [[2, 3, 1, 1], [1, 2, 3, 1], [1, 1, 2, 3], [3, 1, 1, 2]] ∧
    invMixMatrix.toList.map (·.toList) =
      [[14, 11, 13, 9], [9, 14, 11, 13], [13, 9, 14, 11], [11, 13, 9, 14]] := by decide

/-- V-T9 to V-T13, one column of the state each. -/
theorem test_mixcolumns :
    peek (exec .mixcolumns (withColumns 0xdb135345 0xf20a225c 0x2d26314c 0x80000000)) columns =
      some [0x8e4da1bc, 0x9fdc589d, 0x4d7ebdf8, 0x1b80809b] ∧
    peek (exec .invmixcolumns (withColumns 0xdb135345 0xf20a225c 0x2d26314c 0x80000000)) columns =
      some [0x32a41d55, 0xaec36982, 0xa05050d6, 0x41ecdaf7] := by decide +kernel

/-- V-C1. -/
theorem test_encrypt : peek (exec .encrypt kat1) columns =
    some [0x69c4e0d8, 0x6a7b0430, 0xd8cdb780, 0x70b4c55a] := by decide +kernel

/-- V-C6, decrypted. -/
theorem test_decrypt : peek (exec .decrypt kat6) columns =
    some [0x00112233, 0x44556677, 0x8899aabb, 0xccddeeff] := by decide +kernel

/-- V-C10, V-C13, V-C14: the key length is checked first. -/
theorem test_cipher_errors : peek (exec .encrypt State.reset) statusWord = some 0x00000010 ∧
    peek (exec .encrypt ((kat1.setKeyLen 20).setBlkLen 8)) State.errCode = some 1 ∧
    peek (exec .decrypt ((kat1.setKeyLen 24).setBlkLen 8)) State.errCode = some 2 := by decide +kernel

/-! ### The window and the step -/

/-- P4, steps 1 and 12 to 15: a CMD write is a step, and an illegal word leaves ERRCODE = 3. -/
theorem test_step_commands :
    peek (step (State.reset.withFetchWord 32 0x60000000)) statusWord = some 0x00000010 ∧
    peek (step (State.reset.withFetchWord 32 0x51000001)) statusWord = some 0x00000030 ∧
    peek (step (State.reset.withFetchWord 32 0x10000057)) State.response = some (some .okay) := by
  decide +kernel

/-- V-B1 to V-B5. -/
theorem test_step_busErrors :
    peek (step (asked (.read 0x00 .word))) State.response = some (some .error) ∧
    peek (step (asked (.write 0x44 .word 1))) State.response = some (some .error) ∧
    peek (step (asked (.read 0x4C .word))) State.response = some (some .error) ∧
    peek (step (asked (.read 0x31 .word))) State.response = some (some .error) ∧
    peek (step (asked (.read 0x30 .byte))) State.response = some (some .error) := by decide +kernel

/-- V-B6, V-B7: reserved bits are not stored. -/
theorem test_step_writes :
    peek (step (asked (.write 0x08 .word 0xffffff18))) State.keyLen = some 0x18 ∧
    peek (step (asked (.write 0x48 .word 0x000000ff))) State.rkSel = some 0xf := by decide +kernel

/-- V-B8: a write of KEY3 with its current value clears the schedule's status. -/
theorem test_step_invalidates :
    peek (step (expanded.setPending [.bus (.write 0x1C .word 0)])) statusWord = some 0 := by
  decide +kernel

/-- V-T21 and 70_reset_and_hazards.md R290: a reset clears an error. -/
theorem test_step_reset :
    peek (step ((expanded.setErrCode 5).setPending [.reset])) statusWord = some 0 := by decide +kernel

/-- 20_memory.md R70: with a latency of 2, the acknowledgement comes at the third edge. -/
theorem test_port_latency :
    (match runEdges (fun _ _ => 2) ⟨State.reset, false, none, 0⟩
        (List.replicate 3 ⟨true, true, false, 0x04, 2, 0⟩) with
      | .next (_, outs) => outs.map PortOut.ack
      | .fault _ => []
      | .refused _ => []) = [false, false, true] := by decide +kernel

/-! ### Witnesses: every statement with hypotheses has a state that meets them -/

theorem witness_ResetEventsRestoreTheResetValues :
    (State.reset.setPending [.reset]).pending = .reset :: [] ∧
    (State.reset.setPending [.resetDuring (.read 0x04 .word)]).pending =
      .resetDuring (.read 0x04 .word) :: [] := by decide

theorem witness_IdleStepHoldsAllState : State.reset.pending = [] := by decide

theorem witness_StepRunsTheDecodedCommand :
    (asked (.write 0x00 .word 0x5000000F)).pending = .bus (.write 0x00 .word 0x5000000F) :: [] ∧
    decode 0x5000000F = .command (.addrk 15) := by decide

theorem witness_DecodeInvertsEncode : WellFormed (.rcon 255) = true ∧ WellFormed (.addrk 15) = true := by
  decide

theorem witness_EncodeInvertsDecode : decode 0x300000FF = .command (.rcon 255) := by decide

/-- Both ends of every range of R106, a set reserved bit in each format, and a word that is neither. -/
theorem witness_IllegalWordsRaiseIllegalCommand :
    (∀ n ∈ [0x00, 0x0F, 0x16, 0x1F, 0x22, 0x2F, 0x31, 0x3F, 0x43, 0x4F, 0x57, 0x5F, 0x62, 0xFF],
      IllegalOpcode n) ∧
    ReservedBitSet 0x10000100 ∧ ReservedBitSet 0x61000001 ∧ ReservedBitSet 0x50000010 ∧
    ¬IllegalOpcode ((0x5000000F : Word).extractLsb' 24 8).toNat ∧ ¬ReservedBitSet 0x5000000F := by
  refine ⟨?_, ?_, ?_, ?_, ?_, ?_⟩
  · simp [IllegalOpcode]
  · exact .inl (by decide)
  · exact .inr (.inl (by decide))
  · exact .inr (.inr (by decide))
  · simp [IllegalOpcode]
  · rintro (⟨h, -⟩ | ⟨h, -⟩ | ⟨-, h⟩) <;> revert h <;> decide

/-- A word of each format rule, with its reserved bits clear and with one set. -/
theorem witness_formatRules :
    (0x15000100 : Word).extractLsb' 24 8 = 0x15#8 ∧ (0x150000FF : Word).extractLsb' 24 8 = 0x15#8 ∧
    (0x42000000 : Word).extractLsb' 24 8 = 0x42#8 ∧ (0x5000000F : Word).extractLsb' 24 8 = 0x50#8 := by
  decide

/-- The cases of R183 at the ends of their ranges. -/
theorem witness_ExpansionFollowsTheRecurrence :
    (3 < Variant.aes128.nk ∧ (3 : Fin 8).val = 3) ∧
    (Variant.aes192.nk ≤ 48 ∧ 48 % Variant.aes192.nk = 0 ∧ 48 < 4 * (Variant.aes192.nr + 1)) ∧
    (Variant.aes256.nk = 8 ∧ 12 % Variant.aes256.nk = 4 ∧ Variant.aes256.nk ≤ 12) ∧
    (43 < 4 * (Variant.aes128.nr + 1) ∧ 43 % Variant.aes128.nk ≠ 0 ∧
      ¬(Variant.aes128.nk = 8 ∧ 43 % Variant.aes128.nk = 4)) := by decide

theorem witness_ExpandBuildsTheSchedule :
    kat1.keyLen = 16#8 ∧ (kat1.setKeyLen 24).keyLen = 24#8 ∧ kat6.keyLen = 32#8 ∧
    ¬KeyLengthLegal State.reset ∧ ¬KeyLengthLegal (kat1.setKeyLen 33) ∧
    4 * (Variant.aes128.nr + 1) ≤ 44 ∧ 4 * (Variant.aes192.nr + 1) ≤ 59 := by
  unfold KeyLengthLegal; decide

theorem witness_ExpansionReadsOnlyItsKeyWords :
    selectVariant kat1.keyLen = some .aes128 ∧ (kat1.setKey 4 0xdeadbeef).keyLen = kat1.keyLen ∧
    ∀ j : Fin 8, j.val < Variant.aes128.nk → (kat1.setKey 4 0xdeadbeef).key[j] = kat1.key[j] := by
  decide

theorem witness_RoundKeyReadBack :
    (0x5C : Offset).toNat = 0x50 + 4 * (3 : Fin 4).val ∧
    (59 : Fin 60).val = 4 * (State.reset.setRkSel 14).rkSel.toNat + (3 : Fin 4).val ∧
    (State.reset.setRkSel 15).rkSel = 15 := by decide

theorem witness_AddrkXorsTheRoundKey :
    (expanded.sv = true ∧ 10 ≤ expanded.nr.toNat) ∧ State.reset.sv = false ∧
    (expanded.sv = true ∧ expanded.nr.toNat < 11) := by decide

/-- The state after EXPAND of the all-zero 128-bit key, with another word in round key 1. -/
def otherKey : State := { expanded with w := expanded.w.set 4 1 }

theorem witness_AddrkReadsOnlyItsRoundKey :
    expanded.sv = true ∧ 0 ≤ expanded.nr.toNat ∧ otherKey.sv = expanded.sv ∧ otherKey.nr = expanded.nr ∧
    otherKey.block = expanded.block ∧
    (∀ c : Fin 4, storeWord otherKey.w (4 * 0 + c.val) = storeWord expanded.w (4 * 0 + c.val)) ∧
    (4 : Fin 60).val ≠ 3 := by decide +kernel

theorem witness_ShiftCommandsRotateTheRows :
    (0 : Fin 4).val = ((3 : Fin 4).val + (1 : Fin 4).val) % 4 ∧
    (3 : Fin 4).val = ((0 : Fin 4).val + 4 - (1 : Fin 4).val) % 4 := by decide

theorem witness_TransformCommandsUndoEachOther : expanded.sv = true ∧ 10 ≤ expanded.nr.toNat := by
  decide

theorem witness_EncryptRunsTheForwardPipeline :
    (selectVariant kat1.keyLen = some .aes128 ∧ kat1.blkLen = 16#8) ∧
    ¬KeyLengthLegal (kat1.setKeyLen 20) ∧
    (KeyLengthLegal (kat1.setBlkLen 8) ∧ (kat1.setBlkLen 8).blkLen ≠ 16#8) := by
  unfold KeyLengthLegal; decide

theorem witness_DecryptRunsTheInversePipeline :
    (selectVariant kat6.keyLen = some .aes256 ∧ kat6.blkLen = 16#8) ∧
    ¬KeyLengthLegal (kat6.setKeyLen 0) ∧
    (KeyLengthLegal (kat6.setBlkLen 17) ∧ (kat6.setBlkLen 17).blkLen ≠ 16#8) := by
  unfold KeyLengthLegal; decide

theorem witness_DecryptUndoesEncrypt : KeyLengthLegal (kat1.setKeyLen 24) ∧ kat1.blkLen = 16#8 := by
  unfold KeyLengthLegal; decide

theorem witness_RoundCommandsEqualTheCipherCommands :
    selectVariant kat6.keyLen = some .aes256 ∧ kat6.blkLen = 16#8 := by decide

theorem witness_CipherOutputDependsOnlyOnKeyAndBlock :
    (kat1.setKey 7 1).keyLen = kat1.keyLen ∧ (kat1.setKey 7 1).blkLen = kat1.blkLen ∧
    (kat1.setKey 7 1).block = kat1.block ∧
    ∀ v, selectVariant kat1.keyLen = some v →
      ∀ j : Fin 8, j.val < v.nk → (kat1.setKey 7 1).key[j] = kat1.key[j] := by
  refine ⟨rfl, rfl, rfl, fun v hv => ?_⟩
  obtain rfl : v = .aes128 := (Option.some.inj hv).symm
  decide

theorem expanded_inv : expanded.Inv :=
  ⟨.inr (.inl (by decide)), fun _ => ⟨.aes128, rfl, rfl, rfl, rfl, rfl⟩, by decide⟩

theorem witness_ExpandingAgainKeepsAValidSchedule :
    expanded.Inv ∧ expanded.sv = true ∧ buildsSchedule .encrypt = true :=
  ⟨expanded_inv, by decide, by decide⟩

/-- The premise inside the conclusion is met too: this command leaves a nonzero code. -/
theorem witness_FailingCommandsWriteOnlyErrcode :
    exec .expand State.reset = .next (State.reset.setErrCode 1) ∧
    (State.reset.setErrCode 1).errCode ≠ 0 := ⟨rfl, by decide⟩

theorem witness_CommandsReportTheFirstError :
    decode 0x60000000 = .command .encrypt ∧ decode 0x60000100 = .illegal .reservedBits := by decide

theorem witness_ErrcodeHoldsTheLastCommandsStatus :
    (∀ v, (Transfer.read 0x00 .word) ≠ .write 0x00 .word v) ∧
    ∀ v, (Transfer.write 0x00 .byte 0) ≠ .write 0x00 .word v := by
  exact ⟨fun _ => nofun, fun _ => nofun⟩

theorem witness_CommandsWriteOnlyTheirRegisters :
    isScalar .expand = false ∧ isByteCommand (.rcon 0) = true ∧ writesBlock .expand = false ∧
    buildsSchedule (.addrk 0) = false := by decide

theorem witness_StepKeepsTheInvariant : expanded.Inv := expanded_inv

/-- Each clause at the ends of its range. -/
theorem witness_BadAccessesGetErrorAndChangeNothing :
    ¬MappedOffset 0x4C ∧ ¬MappedOffset 0x60 ∧ ¬MappedOffset 0xFC ∧ ¬MappedOffset 0x01 ∧
    (MappedOffset 0x04 ∧ ReadOnlyOffset 0x04) ∧ (MappedOffset 0x44 ∧ ReadOnlyOffset 0x44) ∧
    (MappedOffset 0x50 ∧ ReadOnlyOffset 0x50) ∧ (MappedOffset 0x5C ∧ ReadOnlyOffset 0x5C) ∧
    (MappedOffset 0x00 ∧ ¬ReadOnlyOffset 0x00) ∧ (MappedOffset 0x48 ∧ ¬ReadOnlyOffset 0x48) ∧
    (MappedOffset 0x5C ∧ (0x5C : Offset) ≠ 0x00) := by
  unfold MappedOffset ReadOnlyOffset; decide

theorem witness_ReadsReturnTheRegister :
    (0x10 : Offset).toNat = 0x10 + 4 * (0 : Fin 8).val ∧
    (0x2C : Offset).toNat = 0x10 + 4 * (7 : Fin 8).val ∧
    (0x3C : Offset).toNat = 0x30 + 4 * (3 : Fin 4).val ∧
    (0x50 : Offset).toNat = 0x50 + 4 * (0 : Fin 4).val ∧ ¬MappedOffset 0x5D := by
  unfold MappedOffset; decide

theorem witness_WritesUpdateTheRegister :
    (0x2C : Offset).toNat = 0x10 + 4 * (7 : Fin 8).val ∧
    (0x30 : Offset).toNat = 0x30 + 4 * (0 : Fin 4).val ∧ (1 : Fin 4) ≠ 0 ∧
    ReadOnlyOffset 0x5C ∧ ¬MappedOffset 0x4C := by
  unfold MappedOffset ReadOnlyOffset; decide

theorem witness_AccessesOtherThanCommandsAreIdempotent :
    ∀ v, (Transfer.write 0x1C .word 5) ≠ .write 0x00 .word v := fun _ h => by simp at h

theorem witness_StatusPacksItsFields : expanded.Inv := expanded_inv

theorem witness_PortRefinesTheAtomicTransfer :
    let p : PortState := ⟨State.reset, false, none, 0⟩
    let i : PortIn := ⟨true, true, true, 0x00, 2, 0x60000000⟩
    p.busy = none ∧ p.inReset = false ∧ i.rstN = true ∧ i.req = true ∧
      1 = max 1 ((fun (_ : State) (_ : Transfer) => 1) p.regs (transferOfPins i)) := by decide

theorem witness_PortAbandonsTransfersInReset :
    (⟨false, true, false, 0x04, 2, 0⟩ : PortIn).rstN = false ∧
    (⟨true, false, false, 0, 0, 0⟩ : PortIn).rstN = true := by decide

theorem witness_BootSequenceEncryptsTheBlock :
    (List.replicate 16 (0xff : Byte)).length = 16 ∧ (List.replicate 24 (0xff : Byte)).length = 24 ∧
    (List.replicate 32 (0xff : Byte)).length = 32 := by decide

end Sys2Proof.Tests
end

/-! PROOFS. The obligations of 00_scope.md: words as byte sequences (R11). -/

section
namespace Sys2Proof

/-- 00_scope.md R11 as printed. `wordOf` is a concatenation, and a concatenation is the OR of its parts
shifted to their places; resizing it to its own width changes nothing. -/
theorem wordOf_eq_shiftLeft_or (a0 a1 a2 a3 : Byte) : wordOf a0 a1 a2 a3 =
    a0.setWidth 32 <<< 24 ||| a1.setWidth 32 <<< 16 ||| a2.setWidth 32 <<< 8 ||| a3.setWidth 32 :=
  calc wordOf a0 a1 a2 a3
    _ = (a0 ++ a1 ++ a2 ++ a3).setWidth 32 := (BitVec.setWidth_eq _).symm
    _ = _ := BitVec.setWidth_append_append_append_eq_shiftLeft_setWidth_or

/-- Settles O9: `byteOf` reads the four fields by definition, and the word of a word's bytes is that word
by `wordOf_byteOf`. -/
theorem wordsHoldTheFirstByteHighest : Obligations.WordsHoldTheFirstByteHighest :=
  ⟨wordOf_eq_shiftLeft_or, fun w => ⟨rfl, rfl, rfl, rfl, wordOf_byteOf w⟩⟩

end Sys2Proof
end

/-! PROOFS. The obligations of 10_state.md: what the outcomes of commands and transfers leave in ERRCODE
(R47), the fields of STATUS (R44), and the reset state (R51). -/

section
namespace Sys2Proof.Machine

/-! ### What each command reports (60_exceptions.md R265) -/

/-- The legal key lengths are those that select a variant (10_state.md R34, 44_key_schedule.md R180). -/
theorem not_keyLengthLegal_iff {s : State} : ¬KeyLengthLegal s ↔ selectVariant s.keyLen = none := by
  simp [KeyLengthLegal, selectVariant_eq_none]

theorem keyLengthLegal_of_some {s : State} {v : Variant} (h : selectVariant s.keyLen = some v) :
    KeyLengthLegal s := by
  by_contra hn
  simp [not_keyLengthLegal_iff.mp hn] at h

/-- ENCRYPT and DECRYPT with an illegal key length fail. -/
theorem runCipher_of_none (pipeline : Store → Nat → Block → Block) {s : State}
    (h : selectVariant s.keyLen = none) :
    runCipher pipeline s = raiseCmdError .invalidKeyLength s := by
  simp [runCipher, h]

/-- ENCRYPT and DECRYPT with a legal key length and an illegal block length fail. -/
theorem runCipher_of_blkLen_ne (pipeline : Store → Nat → Block → Block) {s : State} {v : Variant}
    (h : selectVariant s.keyLen = some v) (hb : s.blkLen ≠ Config.blockBytes) :
    runCipher pipeline s = raiseCmdError .invalidBlockLength s := by
  simp [runCipher, h, hb]

/-- ADDRK without a valid schedule fails, whatever the round. -/
theorem execAddrk_of_sv_false (r : Nat) {s : State} (h : s.sv = false) :
    execAddrk r s = raiseCmdError .scheduleNotValid s := by
  simp [execAddrk, h]

/-- EXPAND reports 1 where the key length selects no variant, and 0 otherwise. -/
theorem execExpand_reports (s : State) :
    ∃ t, execExpand s = .next t ∧ ReportedCode .expand s t.errCode := by
  cases h : selectVariant s.keyLen with
  | none => exact ⟨_, execExpand_of_none h, .inr ⟨not_keyLengthLegal_iff.mpr h, rfl⟩⟩
  | some v => exact ⟨_, execExpand_of_some h, .inl ⟨keyLengthLegal_of_some h, rfl⟩⟩

/-- What ENCRYPT and DECRYPT report does not depend on the pipeline they run. -/
theorem runCipher_reports (pipeline : Store → Nat → Block → Block) (s : State) :
    ∃ t, runCipher pipeline s = .next t ∧ ReportedCode .encrypt s t.errCode := by
  obtain ⟨hk, h⟩ | ⟨v, hk, hb, h⟩ | ⟨v, hk, hb, h⟩ := runCipher_cases pipeline s
  · exact ⟨_, h, .inr (.inl ⟨not_keyLengthLegal_iff.mpr hk, rfl⟩)⟩
  · exact ⟨_, h, .inr (.inr ⟨keyLengthLegal_of_some hk, hb, rfl⟩)⟩
  · exact ⟨_, h, .inl ⟨keyLengthLegal_of_some hk, hb, rfl⟩⟩

/-- ADDRK checks SV before the range of the round. -/
theorem execAddrk_reports (r : Nat) (s : State) :
    ∃ t, execAddrk r s = .next t ∧ ReportedCode (.addrk r) s t.errCode := by
  obtain ⟨hv, h⟩ | ⟨hv, hr, h⟩ | ⟨hv, hr, h⟩ := execAddrk_cases r s
  · exact ⟨_, h, .inr (.inl ⟨hv, rfl⟩)⟩
  · exact ⟨_, h, .inr (.inr ⟨hv, hr, rfl⟩)⟩
  · exact ⟨_, h, .inl ⟨hv, hr, rfl⟩⟩

/-- Every command completes and leaves in ERRCODE the code of the first check it fails; the scalar commands
and the state transforms have no check. -/
theorem exec_reports (i : Instr) (s : State) :
    ∃ t, exec i s = .next t ∧ ReportedCode i s t.errCode := by
  cases i with
  | expand => exact execExpand_reports s
  | encrypt => exact runCipher_reports cipher s
  | decrypt => exact runCipher_reports invCipher s
  | addrk r => exact execAddrk_reports r s
  | _ => exact ⟨_, rfl, rfl⟩

/-- Executing a word completes: a command reports its own code, and any other word IllegalCommand. -/
theorem execute_reports (v : Word) (s : State) : ∃ t, execute v s = .next t ∧
    (∀ i, decode v = .command i → ReportedCode i s t.errCode) ∧
    (∀ why, decode v = .illegal why → t.errCode = 3) := by
  cases hd : decode v with
  | command i =>
    obtain ⟨t, ht, hc⟩ := exec_reports i s
    exact ⟨t, (execute_of_command hd s).trans ht, fun _ h => Decoded.command.inj h ▸ hc, nofun⟩
  | illegal why => exact ⟨_, execute_of_illegal hd s, nofun, fun _ _ => rfl⟩

/-! ### ERRCODE under the accesses of the bus (20_memory.md R73 to R78) -/

/-- The map holds a register at its own offset only. -/
theorem eq_regOffset_of_regAt {off : Offset} {r : Reg} (h : regAt off = some r) : off = regOffset r := by
  obtain ⟨l₁, l₂, hl, -⟩ := List.lookup_eq_some_iff.mp h
  have hmem : (off, r) ∈ lowMap ++ highMap := by simp [hl]
  have hmap : ∀ p ∈ lowMap ++ highMap, p.1 = regOffset p.2 := by decide
  exact hmap _ hmem

/-- An access that passes the check is a 32-bit one at the offset of the register it reaches. -/
theorem of_checkAccess_eq_some {off : Offset} {size : AccessSize} {r : Reg}
    (h : checkAccess off size = some r) : off = regOffset r ∧ size = .word := by
  obtain ⟨hsize, -, hoff⟩ := checkAccess_eq_some.mp h
  exact ⟨eq_regOffset_of_regAt hoff, hsize⟩

theorem serve_commandTransfer (v : Word) (s : State) :
    serve (commandTransfer v) s = onNext (execute v s) (State.respond (some .okay)) :=
  serve_write_regOffset .cmd v s

/-- A write to a register other than CMD is refused, or completes with ERRCODE as it was. -/
theorem writeReg_errCode {r : Reg} (hr : r ≠ .cmd) (v : Word) (s : State) :
    writeReg r v s = none ∨ ∃ t, writeReg r v s = some (.next t) ∧ t.errCode = s.errCode := by
  cases r with
  | cmd => exact absurd rfl hr
  | status | result | rkOut _ => exact .inl rfl
  | _ => exact .inr ⟨_, rfl, rfl⟩

/-- A read does nothing but answer. -/
theorem serve_read_eq_respond (off : Offset) (size : AccessSize) (s : State) :
    ∃ r, serve (.read off size) s = .next (s.respond (some r)) := by
  cases h : memRead off size s with
  | none => exact ⟨.error, by simp [serve, h]⟩
  | some v => exact ⟨.okayData v, by simp [serve, h]⟩

/-- A write that carries no command leaves ERRCODE: it fails the check, or reaches another register. -/
theorem serve_write_errCode {off : Offset} {size : AccessSize} {v : Word} (s : State)
    (h : Transfer.write off size v ≠ commandTransfer v) :
    ∃ t, serve (.write off size v) s = .next t ∧ t.errCode = s.errCode := by
  cases hc : checkAccess off size with
  | none => exact ⟨s.respond (some .error), by simp [serve, memWrite, hc], rfl⟩
  | some r =>
    obtain ⟨rfl, rfl⟩ := of_checkAccess_eq_some hc
    have hr : r ≠ .cmd := fun hr => h (hr ▸ rfl)
    rw [serve_write_regOffset]
    obtain hw | ⟨t, hw, ht⟩ := writeReg_errCode hr v s
    · exact ⟨s.respond (some .error), by simp [hw], rfl⟩
    · exact ⟨t.respond (some .okay), by simp [hw], ht⟩

/-- Settles O36: a CMD write is `execute` with the port's answer after it, and every other transfer is a
read, a bus error, or a write to another register. -/
theorem errcodeHoldsTheLastCommandsStatus : Obligations.ErrcodeHoldsTheLastCommandsStatus := by
  refine ⟨fun v s => ?_, fun tr s htr => ?_⟩
  · obtain ⟨t, ht, hcode⟩ := execute_reports v s
    exact ⟨t.respond (some .okay), (serve_commandTransfer v s).trans (by simp [ht]), hcode⟩
  · cases tr with
    | read off size =>
      obtain ⟨r, hr⟩ := serve_read_eq_respond off size s
      exact ⟨_, hr, rfl⟩
    | write off size v => exact serve_write_errCode s (htr v)

/-! ### The fields of STATUS (10_state.md R44) -/

/-- A field put above the bits of a word adds its value at its place. -/
theorem toNat_or_field {n k : Nat} {w : Word} (x : BitVec k) (hw : w.toNat < 2 ^ n) (hk : n + k ≤ 32) :
    (w ||| x.setWidth 32 <<< n).toNat = w.toNat + x.toNat * 2 ^ n := by
  have hx : x.toNat * 2 ^ n < 2 ^ 32 := calc
    x.toNat * 2 ^ n < 2 ^ k * 2 ^ n := Nat.mul_lt_mul_of_pos_right x.isLt (by positivity)
    _ = 2 ^ (n + k) := by rw [← Nat.pow_add, Nat.add_comm]
    _ ≤ 2 ^ 32 := Nat.pow_le_pow_right (by decide) hk
  have hx' : x.toNat < 2 ^ 32 := x.isLt.trans_le (Nat.pow_le_pow_right (by decide) (by omega))
  rw [BitVec.toNat_or, BitVec.toNat_shiftLeft, BitVec.toNat_setWidth, Nat.mod_eq_of_lt hx',
    Nat.shiftLeft_eq, Nat.mod_eq_of_lt hx, Nat.or_comm, Nat.mul_comm, ← Nat.two_pow_add_eq_or_of_lt hw,
    Nat.add_comm]

/-- STATUS as the number its fields write. -/
theorem toNat_statusWord (s : State) : (statusWord s).toNat = s.sv.toNat + s.errCode.toNat * 2 ^ 4 +
    s.variant.toNat * 2 ^ 8 + s.nr.toNat * 2 ^ 16 + s.nk.toNat * 2 ^ 24 := by
  have hsv : (if s.sv then 1#32 else 0#32).toNat = s.sv.toNat := by cases s.sv <;> rfl
  have := s.sv.toNat_le
  have hcode := toNat_or_field (n := 4) s.errCode (w := if s.sv then 1#32 else 0#32) (by omega) (by decide)
  have hvariant := toNat_or_field (n := 8) s.variant (lt_of_eq_of_lt hcode (by omega)) (by decide)
  have hnr := toNat_or_field (n := 16) s.nr (lt_of_eq_of_lt hvariant (by omega)) (by decide)
  have hnk := toNat_or_field (n := 24) s.nk (lt_of_eq_of_lt hnr (by omega)) (by decide)
  rw [statusWord, hnk, hnr, hvariant, hcode, hsv]

/-- A field of a word, by the numbers. -/
theorem extractLsb'_eq_iff {n k : Nat} {w : Word} {x : BitVec k} :
    w.extractLsb' n k = x ↔ w.toNat / 2 ^ n % 2 ^ k = x.toNat := by
  rw [← BitVec.toNat_inj, BitVec.extractLsb'_toNat, Nat.shiftRight_eq_div_pow]

/-- The rows of 10_state.md R45 bound NR and NK. -/
theorem ScheduleRow.legal_nr_nk {s : State} (h : ScheduleRow s) :
    s.nr.toNat ∈ [0, 10, 12, 14] ∧ s.nk.toNat ∈ [0, 4, 6, 8] := by
  obtain ⟨-, -, hnk, hnr⟩ | ⟨-, -, hnk, hnr⟩ | ⟨-, -, hnk, hnr⟩ | ⟨-, -, hnk, hnr⟩ := h <;>
    rw [hnk, hnr] <;> decide

/-- Settles O45: the fields are read off the number STATUS is, and the legal values are the invariant's. -/
theorem statusPacksItsFields : Obligations.StatusPacksItsFields := by
  refine ⟨fun s => ?_, fun s h => ⟨h.code, h.row.legal_nr_nk⟩, rfl⟩
  have hsv : (if s.sv then 1#1 else 0#1).toNat = s.sv.toNat := by cases s.sv <;> rfl
  have := s.sv.toNat_le
  simp only [extractLsb'_eq_iff, toNat_statusWord, hsv, BitVec.toNat_ofNat, Nat.zero_mod]
  and_intros <;> omega

/-! ### The reset state (10_state.md R51) -/

theorem reset_key (j : Fin 8) : State.reset.key[j] = 0 := by
  revert j; decide

theorem entry_reset_block (r c : Fin 4) : Block.entry State.reset.block r c = 0 := by
  revert r c; decide

theorem reset_w (i : Fin 60) : State.reset.w[i] = 0 := by
  simp [State.reset]

/-- Settles O1: the table is the definition of the reset state, and its consequences are the failing cases
of the commands. -/
theorem resetLeavesEveryRegisterZero : Obligations.ResetLeavesEveryRegisterZero :=
  ⟨reset_key, rfl, rfl, entry_reset_block, rfl, rfl, reset_w, rfl, rfl, rfl, rfl, rfl, rfl, rfl,
    execExpand_of_none (s := .reset) rfl,
    runCipher_of_none cipher (s := .reset) rfl,
    runCipher_of_none invCipher (s := .reset) rfl,
    runCipher_of_blkLen_ne cipher (s := State.reset.setKeyLen 16) (v := .aes128) rfl (by decide),
    runCipher_of_blkLen_ne invCipher (s := State.reset.setKeyLen 16) (v := .aes128) rfl (by decide),
    fun r => execAddrk_of_sv_false r (s := .reset) rfl⟩

end Sys2Proof.Machine
end

/-! PROOFS. The obligations of 20_memory.md: which accesses get ERROR (R74, R75), and what a word read
(R77) and a word write (R78, R79) do at each register of the map. -/

section
namespace Sys2Proof.Machine

open Sys2Proof.Reference (MappedOffset ReadOnlyOffset)

/-! ### The offsets of the map (20_memory.md R73) -/

/-- The form in which the map writes the offset of an indexed register. -/
theorem eq_ofNat_of_toNat_eq {off : Offset} {n : Nat} (h : off.toNat = n) : off = BitVec.ofNat 8 n := by
  rw [← h, BitVec.ofNat_toNat, BitVec.setWidth_eq]

/-- The map has no gap below 0x60 but 0x4C. -/
theorem regAt_isSome_of_lt : ∀ k < 24, k ≠ 19 → (regAt (BitVec.ofNat 8 (4 * k))).isSome := by decide

/-- The mapped offsets are those of the registers. -/
theorem mappedOffset_iff {off : Offset} : MappedOffset off ↔ ∃ r, off = regOffset r := by
  constructor
  · rintro ⟨hmul, hle, hne⟩
    have hoff : off = BitVec.ofNat 8 (4 * (off.toNat / 4)) := eq_ofNat_of_toNat_eq (by omega)
    have hsome := regAt_isSome_of_lt (off.toNat / 4) (by omega) (by omega)
    obtain ⟨r, hr⟩ := Option.isSome_iff_exists.mp hsome
    exact ⟨r, eq_regOffset_of_regAt (hoff ▸ hr)⟩
  · rintro ⟨r, rfl⟩
    unfold MappedOffset
    cases r with
    | key j => revert j; decide
    | state c | rkOut c => revert c; decide
    | _ => decide

theorem regOffset_eq_zero_iff {r : Reg} : regOffset r = 0x00 ↔ r = .cmd := by
  constructor
  · intro h
    have hcmd : some r = some .cmd := by rw [← regAt_regOffset r, h]; rfl
    exact Option.some.inj hcmd
  · rintro rfl; rfl

/-! ### Which accesses are refused (20_memory.md R74, R75) -/

/-- An access that is not a 32-bit one at a mapped offset fails the check. -/
theorem checkAccess_eq_none {off : Offset} {size : AccessSize} (h : size ≠ .word ∨ ¬MappedOffset off) :
    checkAccess off size = none := by
  rw [Option.eq_none_iff_forall_ne_some]
  intro r hr
  obtain ⟨hoff, hsize⟩ := of_checkAccess_eq_some hr
  exact h.elim (· hsize) (· (mappedOffset_iff.mpr ⟨r, hoff⟩))

theorem serve_read_of_checkAccess_eq_none {off : Offset} {size : AccessSize} (s : State)
    (h : checkAccess off size = none) : serve (.read off size) s = .next (s.respond (some .error)) := by
  simp [serve, memRead, h]

theorem serve_write_of_checkAccess_eq_none {off : Offset} {size : AccessSize} (v : Word) (s : State)
    (h : checkAccess off size = none) : serve (.write off size v) s = .next (s.respond (some .error)) := by
  simp [serve, memWrite, h]

/-- Every register but CMD can be read. -/
theorem exists_readReg_eq_some {r : Reg} (hr : r ≠ .cmd) (s : State) : ∃ x, readReg r s = some x := by
  cases r with
  | cmd => exact absurd rfl hr
  | _ => exact ⟨_, rfl⟩

/-- A write to a register is refused at the read-only offsets; at any other it completes. -/
theorem writeReg_cases (r : Reg) (v : Word) (s : State) :
    (ReadOnlyOffset (regOffset r) ∧ writeReg r v s = none) ∨
    (¬ReadOnlyOffset (regOffset r) ∧ ∃ t, writeReg r v s = some (.next t)) := by
  unfold ReadOnlyOffset
  cases r with
  | cmd =>
    obtain ⟨t, ht, -⟩ := execute_reports v s
    exact .inr ⟨by decide, t, congrArg some ht⟩
  | status | result => exact .inl ⟨by decide, rfl⟩
  | rkOut c => exact .inl ⟨by revert c; decide, rfl⟩
  | key j => exact .inr ⟨by revert j; decide, _, rfl⟩
  | state c => exact .inr ⟨by revert c; decide, _, rfl⟩
  | keyLen | blkLen | opw | rkSel => exact .inr ⟨by decide, _, rfl⟩

/-- A read of CMD is refused, by the check or, where the size passes it, by the register. -/
theorem serve_read_cmd (size : AccessSize) (s : State) :
    serve (.read 0x00 size) s = .next (s.respond (some .error)) := by
  cases size <;> rfl

/-- A word read of any register but CMD is answered with data. -/
theorem serve_read_okay {off : Offset} (hmap : MappedOffset off) (hoff : off ≠ 0x00) (s : State) :
    ∃ x, serve (.read off .word) s = .next (s.respond (some (.okayData x))) := by
  obtain ⟨r, rfl⟩ := mappedOffset_iff.mp hmap
  obtain ⟨x, hx⟩ := exists_readReg_eq_some (mt regOffset_eq_zero_iff.mpr hoff) s
  exact ⟨x, by simp [serve_read_regOffset, hx]⟩

/-- A write of whatever size to a read-only offset is refused. -/
theorem serve_write_readOnly {off : Offset} (hro : ReadOnlyOffset off) (size : AccessSize) (v : Word)
    (s : State) : serve (.write off size v) s = .next (s.respond (some .error)) := by
  by_cases hbad : size ≠ .word ∨ ¬MappedOffset off
  · exact serve_write_of_checkAccess_eq_none v s (checkAccess_eq_none hbad)
  · obtain ⟨rfl, hmap⟩ : size = .word ∧ MappedOffset off := by simpa using hbad
    obtain ⟨r, rfl⟩ := mappedOffset_iff.mp hmap
    obtain ⟨-, hw⟩ | ⟨hnot, -⟩ := writeReg_cases r v s
    · simp [serve_write_regOffset, hw]
    · exact absurd hro hnot

/-- A word write to a register that is not read-only is answered with OKAY. -/
theorem serve_write_okay {off : Offset} (hmap : MappedOffset off) (hro : ¬ReadOnlyOffset off) (v : Word)
    (s : State) : ∃ t, serve (.write off .word v) s = .next t ∧ t.response = some .okay := by
  obtain ⟨r, rfl⟩ := mappedOffset_iff.mp hmap
  obtain ⟨hyes, -⟩ | ⟨-, t, hw⟩ := writeReg_cases r v s
  · exact absurd hyes hro
  · exact ⟨t.respond (some .okay), by simp [serve_write_regOffset, hw], rfl⟩

/-- Settles O41: an access fails the check, or reaches a register of the map; there CMD alone refuses a
read, and the read-only registers alone refuse a write. -/
theorem badAccessesGetErrorAndChangeNothing : Obligations.BadAccessesGetErrorAndChangeNothing := by
  intro off size v s
  refine ⟨fun hbad => ?_, ?_, fun _ hro => serve_write_readOnly hro size v s, ?_, ?_,
    fun _ => ⟨rfl, rfl⟩⟩
  · have hnone := checkAccess_eq_none hbad
    exact ⟨serve_read_of_checkAccess_eq_none s hnone, serve_write_of_checkAccess_eq_none v s hnone⟩
  · rintro rfl; exact serve_read_cmd size s
  · rintro rfl hmap hoff; exact serve_read_okay hmap hoff s
  · rintro rfl hmap hro; exact serve_write_okay hmap hro v s

/-! ### What an access does at each register (20_memory.md R77 to R79) -/

/-- The entries of a matrix after a write to STATE[c] (10_state.md R38). -/
theorem entry_setColumn (b : Block) (c : Fin 4) (v : Word) (r c' : Fin 4) :
    Block.entry (Block.setColumn b c v) r c' = if c' = c then byteOf v r else Block.entry b r c' :=
  Block.entry_build _ r c'

/-- Settles O43: at the offset of a register a write is what `writeReg` says of it, and a write to a
read-only or unmapped offset is refused. -/
theorem writesUpdateTheRegister : Obligations.WritesUpdateTheRegister := by
  intro s v
  refine ⟨serve_write_regOffset .cmd v s, serve_write_regOffset .keyLen v s,
    serve_write_regOffset .blkLen v s, fun j off hoff => ?key, fun c off hoff => ?state,
    serve_write_regOffset .opw v s, serve_write_regOffset .rkSel v s, ?refused⟩
  case key =>
    obtain rfl : off = regOffset (.key j) := eq_ofNat_of_toNat_eq hoff
    exact serve_write_regOffset (.key j) v s
  case state =>
    obtain rfl : off = regOffset (.state c) := eq_ofNat_of_toNat_eq hoff
    refine ⟨Block.setColumn s.block c v, serve_write_regOffset (.state c) v s, fun r => ?_,
      fun r c' hc => ?_⟩
    · rw [entry_setColumn, if_pos rfl]
    · rw [entry_setColumn, if_neg hc]
  case refused =>
    rintro off (hro | hmap)
    · exact serve_write_readOnly hro .word v s
    · exact serve_write_of_checkAccess_eq_none v s (checkAccess_eq_none (.inr hmap))

/-- Settles O42: at the offset of a register a read answers what `readReg` says of it, and at CMD and at an
unmapped offset it is refused. -/
theorem readsReturnTheRegister : Obligations.ReadsReturnTheRegister := by
  intro s
  refine ⟨serve_read_regOffset .status s, serve_read_regOffset .keyLen s,
    serve_read_regOffset .blkLen s, fun j off hoff => ?key, fun c off hoff => ?state,
    serve_read_regOffset .opw s, serve_read_regOffset .result s, serve_read_regOffset .rkSel s,
    fun c off hoff => ?rkOut, ?refused⟩
  case key =>
    obtain rfl : off = regOffset (.key j) := eq_ofNat_of_toNat_eq hoff
    exact serve_read_regOffset (.key j) s
  case state =>
    obtain rfl : off = regOffset (.state c) := eq_ofNat_of_toNat_eq hoff
    exact serve_read_regOffset (.state c) s
  case rkOut =>
    obtain rfl : off = regOffset (.rkOut c) := eq_ofNat_of_toNat_eq hoff
    exact serve_read_regOffset (.rkOut c) s
  case refused =>
    rintro off (rfl | hmap)
    · exact serve_read_cmd .word s
    · exact serve_read_of_checkAccess_eq_none s (checkAccess_eq_none (.inr hmap))

end Sys2Proof.Machine
end

/-! PROOFS. The obligations of 30_encoding.md: which words are commands (R104 to R106), and the worked
examples of R111. -/

section
namespace Sys2Proof

open Reference

/-! ### Decoding by the class of the opcode (30_encoding.md R104 to R106) -/

/-- The ranges of R106 leave out no opcode: each is illegal or has one of the three formats (R104). -/
theorem opcode_cases (opc : Byte) : IllegalOpcode opc.toNat ∨ opc ∈ formatIOpcodes ∨
    opc ∈ formatNOpcodes ∨ opc = 0x50#8 := by
  unfold IllegalOpcode
  revert opc
  decide

/-- An opcode of the map is in none of the ranges of R106, so the decoder reaches its last row. -/
theorem decode_of_illegalOpcode {v : Word} (h : IllegalOpcode (opcField v).toNat) :
    decode v = .illegal .unassignedOpcode := by
  unfold decode
  split
  case h_22 => rfl
  all_goals simp_all [IllegalOpcode]

theorem exists_decode_eq_formatI {v : Word} (h : opcField v ∈ formatIOpcodes) :
    ∃ i, decode v = formatI v i := by
  simp only [formatIOpcodes, List.mem_cons, List.not_mem_nil, or_false] at h
  obtain h | h | h | h | h | h | h | h | h := h <;> exact ⟨_, by rw [decode, h]; rfl⟩

theorem exists_decode_eq_formatN {v : Word} (h : opcField v ∈ formatNOpcodes) :
    ∃ i, decode v = formatN v i := by
  simp only [formatNOpcodes, List.mem_cons, List.not_mem_nil, or_false] at h
  obtain h | h | h | h | h | h | h | h | h | h | h := h <;> exact ⟨_, by rw [decode, h]; rfl⟩

theorem decode_eq_formatR {v : Word} (h : opcField v = 0x50#8) :
    decode v = formatR v fun r => .addrk r.toNat := by
  rw [decode, h]; rfl

theorem decode_of_reservedBitSet {v : Word} (h : ReservedBitSet v) :
    decode v = .illegal .reservedBits := by
  obtain ⟨hopc, hbits⟩ | ⟨hopc, hbits⟩ | ⟨hopc, hbits⟩ := h
  · obtain ⟨i, hd⟩ := exists_decode_eq_formatI hopc
    exact hd.trans (if_neg hbits)
  · obtain ⟨i, hd⟩ := exists_decode_eq_formatN hopc
    exact hd.trans (if_neg hbits)
  · exact (decode_eq_formatR hopc).trans (if_neg hbits)

/-- The words R106 does not name are commands. -/
theorem exists_decode_eq_command {v : Word} (hopc : ¬IllegalOpcode (opcField v).toNat)
    (hres : ¬ReservedBitSet v) : ∃ i, decode v = .command i := by
  obtain hill | hI | hN | hR := opcode_cases (opcField v)
  · exact absurd hill hopc
  · obtain ⟨i, hd⟩ := exists_decode_eq_formatI hI
    exact ⟨_, hd.trans (if_pos (by_contra fun hbits => hres (.inl ⟨hI, hbits⟩)))⟩
  · obtain ⟨i, hd⟩ := exists_decode_eq_formatN hN
    exact ⟨_, hd.trans (if_pos (by_contra fun hbits => hres (.inr (.inl ⟨hN, hbits⟩))))⟩
  · exact ⟨_, (decode_eq_formatR hR).trans
      (if_pos (by_contra fun hbits => hres (.inr (.inr ⟨hR, hbits⟩))))⟩

namespace Machine

/-- A CMD write of an illegal word, whatever makes it illegal (20_memory.md R80). -/
theorem serve_write_cmd_of_illegal {v : Word} {why : IllegalWord} (h : decode v = .illegal why)
    (s : State) : serve (.write 0x00 .word v) s =
      .next { s with errCode := 3, response := some .okay } := by
  refine (serve_commandTransfer v s).trans ?_
  rw [execute_of_illegal h]
  rfl

/-- Settles O8: a word with an opcode outside the map or with a reserved bit set decodes to a reason, and
any other word to a command of its opcode's format. -/
theorem illegalWordsRaiseIllegalCommand : Obligations.IllegalWordsRaiseIllegalCommand := by
  refine fun v s => ⟨?illegal, exists_decode_eq_command⟩
  case illegal =>
    rintro (hopc | hres)
    · exact serve_write_cmd_of_illegal (decode_of_illegalOpcode hopc) s
    · exact serve_write_cmd_of_illegal (decode_of_reservedBitSet hres) s

end Machine

/-! ### The worked examples (30_encoding.md R111) -/

/-- Settles O5: the legal words by running the decoder; the illegal ones by the opcode outside the map,
and by the reserved bit set in a word of format N, R and I. -/
theorem sampleWordsDecode : Obligations.SampleWordsDecode :=
  ⟨rfl, rfl, rfl, rfl, rfl,
    decode_of_illegalOpcode (.inl (by decide)),
    decode_of_reservedBitSet (.inr (.inl (by decide))),
    decode_of_reservedBitSet (.inr (.inr (by decide))),
    decode_of_reservedBitSet (.inl (by decide))⟩

end Sys2Proof
end

/-! PROOFS. The obligation of 41_galois.md: the commands built from xtime write the field product (R130,
R139 to R144). -/

section
namespace Sys2Proof.Reference

/-! ### Reduction modulo m(x) (41_galois.md R130) -/

/-- The remainder of a polynomial of degree at most 14 modulo m(x), as `fieldMul` computes it. -/
def polyMod (p : BitVec 15) : Byte := ([6, 5, 4, 3, 2, 1, 0].foldl reduceAt p).setWidth 8

theorem fieldMul_eq_polyMod (a b : Byte) : fieldMul a b = polyMod (polyMul a b) := rfl

/-- Reducing one coefficient is linear: the multiple of m(x) for a sum is the sum of the multiples. -/
theorem reduceAt_xor (p q : BitVec 15) (i : Nat) :
    reduceAt (p ^^^ q) i = reduceAt p i ^^^ reduceAt q i := by
  unfold reduceAt
  rw [BitVec.getLsbD_xor]
  generalize 0x11b#15 <<< i = m
  cases p.getLsbD (8 + i) <;> cases q.getLsbD (8 + i)
  case false.false => rfl
  case false.true => exact BitVec.xor_assoc p q m
  case true.false =>
    change p ^^^ q ^^^ m = p ^^^ m ^^^ q
    ac_rfl
  case true.true =>
    calc p ^^^ q
      _ = p ^^^ q ^^^ (m ^^^ m) := by rw [BitVec.xor_self, BitVec.xor_zero]
      _ = (p ^^^ m) ^^^ (q ^^^ m) := by ac_rfl

theorem foldl_reduceAt_xor (l : List Nat) (p q : BitVec 15) :
    l.foldl reduceAt (p ^^^ q) = l.foldl reduceAt p ^^^ l.foldl reduceAt q := by
  induction l generalizing p q with
  | nil => rfl
  | cons i l ih => simp only [List.foldl_cons, reduceAt_xor, ih]

theorem polyMod_xor (p q : BitVec 15) : polyMod (p ^^^ q) = polyMod p ^^^ polyMod q := by
  rw [polyMod, foldl_reduceAt_xor, BitVec.setWidth_xor]
  rfl

/-! ### Multiplying by x before and after the reduction (41_galois.md R131) -/

/-- Reducing x · p one coefficient higher is reducing p and then multiplying by x. -/
theorem reduceAt_shiftLeft_one (p : BitVec 15) {i : Nat} (hi : i < 6) :
    reduceAt (p <<< 1) (i + 1) = reduceAt p i <<< 1 := by
  have hbit : (p <<< 1).getLsbD (8 + (i + 1)) = p.getLsbD (8 + i) := by
    rw [BitVec.getLsbD_shiftLeft, decide_eq_true (by omega), decide_eq_false (by omega)]
    rfl
  unfold reduceAt
  rw [hbit]
  split
  · rw [BitVec.shiftLeft_xor_distrib, BitVec.shiftLeft_add]
  · rfl

theorem foldl_reduceAt_shiftLeft_one (l : List Nat) (hl : ∀ i ∈ l, i < 6) (p : BitVec 15) :
    (l.map (· + 1)).foldl reduceAt (p <<< 1) = l.foldl reduceAt p <<< 1 := by
  induction l generalizing p with
  | nil => rfl
  | cons i l ih =>
    obtain ⟨hi, hl⟩ := List.forall_mem_cons.mp hl
    rw [List.map_cons, List.foldl_cons, List.foldl_cons, reduceAt_shiftLeft_one p hi, ih hl]

/-- The last reduction of x · q is xtime of the byte q. -/
theorem setWidth_reduceAt_shiftLeft_one (q : BitVec 15) :
    (reduceAt (q <<< 1) 0).setWidth 8 = xtime (q.setWidth 8) := by
  have hshift : (q <<< 1).setWidth 8 = q.setWidth 8 <<< 1 :=
    BitVec.setWidth_shiftLeft_of_le (by decide)
  have hbit : (q <<< 1).getLsbD (8 + 0) = (q.setWidth 8).getLsbD 7 := by simp
  unfold reduceAt xtime
  rw [hbit]
  split
  · rw [BitVec.setWidth_xor, hshift]; rfl
  · exact hshift

/-- Where x · p still has degree at most 14, its remainder is xtime of the remainder of p. -/
theorem polyMod_shiftLeft_one {p : BitVec 15} (hp : p.getLsbD 14 = false) :
    polyMod (p <<< 1) = xtime (polyMod p) := by
  have htop : reduceAt p 6 = p := if_neg (by rw [hp]; decide)
  calc polyMod (p <<< 1)
    _ = (reduceAt (([5, 4, 3, 2, 1, 0].map (· + 1)).foldl reduceAt (p <<< 1)) 0).setWidth 8 := rfl
    _ = (reduceAt ([5, 4, 3, 2, 1, 0].foldl reduceAt p <<< 1) 0).setWidth 8 := by
      rw [foldl_reduceAt_shiftLeft_one _ (by decide)]
    _ = xtime (([5, 4, 3, 2, 1, 0].foldl reduceAt p).setWidth 8) := setWidth_reduceAt_shiftLeft_one _
    _ = xtime (([5, 4, 3, 2, 1, 0].foldl reduceAt (reduceAt p 6)).setWidth 8) := by rw [htop]

/-- A byte has nothing to reduce. -/
theorem polyMod_setWidth (b : Byte) : polyMod (b.setWidth 15) = b := by
  have hstep (i : Nat) : reduceAt (b.setWidth 15) i = b.setWidth 15 := by
    simp [reduceAt, BitVec.getLsbD_setWidth]
  have hfold (l : List Nat) : l.foldl reduceAt (b.setWidth 15) = b.setWidth 15 := by
    induction l with
    | nil => rfl
    | cons i l ih => rw [List.foldl_cons, hstep, ih]
  rw [polyMod, hfold, BitVec.setWidth_setWidth_of_le _ (by decide), BitVec.setWidth_eq]

/-- The product of b and x^n in the field is xtime, n times. -/
theorem polyMod_shiftLeft (b : Byte) {n : Nat} (hn : n < 8) :
    polyMod (b.setWidth 15 <<< n) = xtime^[n] b := by
  induction n with
  | zero => rw [BitVec.shiftLeft_zero, polyMod_setWidth, Function.iterate_zero_apply]
  | succ n ih =>
    have htop : (b.setWidth 15 <<< n).getLsbD 14 = false := by
      rw [BitVec.getLsbD_shiftLeft, BitVec.getLsbD_setWidth, BitVec.getLsbD_of_ge b _ (by omega)]
      simp
    rw [BitVec.shiftLeft_add, polyMod_shiftLeft_one htop, ih (by omega), Function.iterate_succ_apply']

/-! ### The field product as repeated xtime (41_galois.md R130, R131) -/

/-- The product is the sum of x^i · a over the bits i set in b, each reduced on its own. -/
theorem fieldMul_eq_foldl_xtime (a b : Byte) : fieldMul a b =
    (List.range 8).foldl (fun r i => if b.getLsbD i then r ^^^ xtime^[i] a else r) 0#8 := by
  rw [fieldMul_eq_polyMod, polyMul]
  refine List.foldl_rel (r := fun p r => polyMod p = r) (by decide) ?_
  rintro i hi p r rfl
  split
  · rw [polyMod_xor, polyMod_shiftLeft a (List.mem_range.mp hi)]
  · rfl

/-- xtime is additive, because shifting and reducing are. -/
theorem xtime_xor (a c : Byte) : xtime (a ^^^ c) = xtime a ^^^ xtime c := by
  have hone (b : Byte) : xtime b = polyMod (b.setWidth 15 <<< 1) :=
    (polyMod_shiftLeft b (n := 1) (by decide)).symm
  rw [hone, hone, hone, BitVec.setWidth_xor, BitVec.shiftLeft_xor_distrib, polyMod_xor]

/-- A factor xtime moves out of the product: every summand has it. -/
theorem fieldMul_xtime_left (a b : Byte) : fieldMul (xtime a) b = xtime (fieldMul a b) := by
  rw [fieldMul_eq_foldl_xtime, fieldMul_eq_foldl_xtime a]
  refine List.foldl_hom (init := 0#8) xtime fun r i => ?_
  split
  · rw [xtime_xor, ← Function.iterate_succ_apply' xtime, Function.iterate_succ_apply]
  · rfl

/-- The product of polynomials is additive in its first factor, summand by summand. -/
theorem polyMul_xor_left (a c b : Byte) : polyMul (a ^^^ c) b = polyMul a b ^^^ polyMul c b := by
  unfold polyMul
  induction List.range 8 using List.reverseRecOn with
  | nil => exact BitVec.xor_zero.symm
  | append_singleton l i ih =>
    simp only [List.foldl_append, List.foldl_cons, List.foldl_nil, ih]
    split
    · rw [BitVec.setWidth_xor, BitVec.shiftLeft_xor_distrib]
      ac_rfl
    · rfl

/-- The product distributes over the sum in its first factor. -/
theorem fieldMul_xor_left (a c b : Byte) :
    fieldMul (a ^^^ c) b = fieldMul a b ^^^ fieldMul c b := by
  rw [fieldMul_eq_polyMod, polyMul_xor_left, polyMod_xor]
  rfl

/-- The sum of the powers of x at the bits of b below n is b cut to n bits: a further summand x^n is bit n,
which no earlier one has. -/
theorem foldl_one_shiftLeft (b : Byte) (n : Nat) :
    (List.range n).foldl (fun p i => if b.getLsbD i then p ^^^ 1#15 <<< i else p) 0#15 =
      (b.setWidth n).setWidth 15 := by
  induction n with
  | zero => simp [BitVec.of_length_zero]
  | succ n ih =>
    rw [List.range_succ, List.foldl_append, ih, List.foldl_cons, List.foldl_nil, ← BitVec.twoPow_eq]
    ext j hj
    grind

/-- The polynomial 1 is the unit. -/
theorem fieldMul_one_left (b : Byte) : fieldMul 0x01 b = b :=
  calc fieldMul 0x01 b
    _ = polyMod ((b.setWidth 8).setWidth 15) := congrArg polyMod (foldl_one_shiftLeft b 8)
    _ = b := by rw [BitVec.setWidth_eq, polyMod_setWidth]

/-! ### The multipliers (41_galois.md R131 to R137) -/

/-- A function that moves out of a product is multiplication by its value at 1. Every multiplier is one,
being built from xtime and sums. -/
theorem fieldMul_apply_one {f : Byte → Byte} (hf : ∀ a b, fieldMul (f a) b = f (fieldMul a b))
    (b : Byte) : fieldMul (f 0x01) b = f b := by
  rw [hf, fieldMul_one_left]

theorem fieldMul_two_left (b : Byte) : fieldMul 0x02 b = xtime b :=
  fieldMul_apply_one fieldMul_xtime_left b

theorem fieldMul_three_left (b : Byte) : fieldMul 0x03 b = gmul3 b :=
  fieldMul_apply_one (f := gmul3)
    (fun a b => by simp only [gmul3, fieldMul_xor_left, fieldMul_xtime_left]) b

theorem fieldMul_nine_left (b : Byte) : fieldMul 0x09 b = gmul9 b :=
  fieldMul_apply_one (f := gmul9)
    (fun a b => by simp only [gmul9, fieldMul_xor_left, fieldMul_xtime_left]) b

theorem fieldMul_eleven_left (b : Byte) : fieldMul 0x0b b = gmul11 b :=
  fieldMul_apply_one (f := gmul11)
    (fun a b => by simp only [gmul11, gmul9, fieldMul_xor_left, fieldMul_xtime_left]) b

theorem fieldMul_thirteen_left (b : Byte) : fieldMul 0x0d b = gmul13 b :=
  fieldMul_apply_one (f := gmul13)
    (fun a b => by simp only [gmul13, gmul9, fieldMul_xor_left, fieldMul_xtime_left]) b

theorem fieldMul_fourteen_left (b : Byte) : fieldMul 0x0e b = gmul14 b :=
  fieldMul_apply_one (f := gmul14)
    (fun a b => by simp only [gmul14, fieldMul_xor_left, fieldMul_xtime_left]) b

end Sys2Proof.Reference

namespace Sys2Proof.Machine

open Reference

/-! ### The commands (41_galois.md R139 to R144) -/

/-- An opcode whose row of the decoder is in format I has that format's rule. -/
theorem formatIRule_of_decode {opc : Byte} {i : Byte → Instr}
    (h : ∀ v, opcField v = opc → decode v = formatI v i) : FormatIRule opc i := by
  intro v s hopc
  by_cases hres : v.extractLsb' 8 16 = 0#16
  · rw [if_pos hres]
    exact execute_of_command ((h v hopc).trans (if_pos hres)) s
  · rw [if_neg hres]
    exact execute_of_illegal ((h v hopc).trans (if_neg hres)) s

/-- Settles O10: each command writes its multiplier's value, which is the field product, and each opcode
has a row of format I in the decoder. -/
theorem galoisCommandsWriteTheFieldProduct : Obligations.GaloisCommandsWriteTheFieldProduct := by
  refine ⟨fun s b => ?products, ?_, ?_, ?_, ?_, ?_, ?_⟩
  case products =>
    rw [fieldMul_two_left, fieldMul_three_left, fieldMul_nine_left, fieldMul_eleven_left,
      fieldMul_thirteen_left, fieldMul_fourteen_left]
    exact ⟨rfl, rfl, rfl, rfl, rfl, rfl⟩
  all_goals exact formatIRule_of_decode fun v hopc => by rw [decode, hopc]; rfl

end Sys2Proof.Machine
end

/-! PROOFS. The obligation of 42_sbox.md: the lookups (R156, R157) and the inverse law of the tables
(R153). -/

section
namespace Sys2Proof

/-! ### The tables are inverse to each other (42_sbox.md R153) -/

/-- R153, read off the two printed tables, entry by entry: ISBOX has x at the place SBOX[x]. -/
theorem isbox_leftInverse_sbox : Function.LeftInverse isbox sbox := by
  unfold Function.LeftInverse
  decide

/-- On the finite type of bytes an inverse on one side is an inverse on both. -/
theorem isbox_rightInverse_sbox : Function.RightInverse isbox sbox :=
  isbox_leftInverse_sbox.rightInverse_of_surjective
    (Finite.injective_iff_surjective.mp isbox_leftInverse_sbox.injective)

@[simp] theorem isbox_sbox (x : Byte) : isbox (sbox x) = x := isbox_leftInverse_sbox x

@[simp] theorem sbox_isbox (y : Byte) : sbox (isbox y) = y := isbox_rightInverse_sbox y

namespace Machine

/-! ### The commands (42_sbox.md R156, R157) -/

/-- Settles O12: both commands write a scalar result, the tables are inverse to each other, the corner
cases are entries of the tables, and each opcode has a row of format I in the decoder. -/
theorem sboxCommandsLookUpInverseTables : Obligations.SboxCommandsLookUpInverseTables := by
  refine ⟨fun s x => ⟨scalar_eq _ s, scalar_eq _ s⟩, fun x => ⟨isbox_sbox x, sbox_isbox x⟩,
    rfl, rfl, rfl, rfl, rfl, rfl, rfl, rfl, ?_, ?_⟩
  all_goals exact formatIRule_of_decode fun v hopc => by rw [decode, hopc]; rfl

end Machine

end Sys2Proof
end

/-! PROOFS. The obligation of 43_rcon.md: the sequence (R170), its period (R171) and the command that
exposes it (R173). -/

section
namespace Sys2Proof

/-! ### The sequence (43_rcon.md R170, R171) -/

@[simp] theorem rcon_zero : rcon 0 = 0x01 := rfl

theorem rcon_succ (n : Nat) : rcon (n + 1) = xtime (rcon n) := rfl

/-- The last element of a period: 50 doublings, each carried out on the byte the one before left. -/
theorem rcon_fifty : rcon 50 = 0x8d := by simp [rcon, xtime]

theorem rcon_fiftyOne : rcon 51 = 0x01 :=
  calc rcon 51
    _ = xtime (rcon 50) := rcon_succ 50
    _ = xtime 0x8d := by rw [rcon_fifty]
    _ = 0x01 := by decide

/-- After 51 doublings the sequence is back at its start, and what follows an element is determined by
that element (R171). -/
@[simp] theorem rcon_add_fiftyOne (n : Nat) : rcon (n + 51) = rcon n := by
  induction n with
  | zero => exact rcon_fiftyOne
  | succ n ih =>
    calc rcon (n + 1 + 51)
      _ = rcon (n + 51 + 1) := by rw [Nat.add_right_comm]
      _ = xtime (rcon (n + 51)) := rcon_succ _
      _ = xtime (rcon n) := by rw [ih]
      _ = rcon (n + 1) := (rcon_succ n).symm

/-- Element 255 closes the fifth period, so it is element 0. -/
theorem rcon_twoHundredFiftyFive : rcon 255 = 0x01 :=
  calc rcon 255
    _ = rcon (0 + 51 + 51 + 51 + 51 + 51) := rfl
    _ = rcon 0 := by simp only [rcon_add_fiftyOne]
    _ = 0x01 := rcon_zero

namespace Machine

/-! ### The command (43_rcon.md R173) -/

/-- Settles O15: the command writes a scalar result, the field double is xtime, the corner cases are
computed or follow from the period, and the opcode has a row of format I in the decoder. -/
theorem rconCommandWritesElementN : Obligations.RconCommandWritesElementN := by
  refine ⟨fun s n => scalar_eq _ s, rcon_zero, fun n => ?double, by decide, by decide, by decide,
    rcon_fifty, rcon_fiftyOne, rcon_twoHundredFiftyFive, ?format⟩
  case double => rw [rcon_succ, Reference.fieldMul_two_left]
  case format => exact formatIRule_of_decode fun v hopc => by rw [decode, hopc]; rfl

end Machine

end Sys2Proof
end

/-! PROOFS. The obligations of 44_key_schedule.md: RotWord and SubWord (R181, R182), the recurrence (R183),
their commands (R188 to R190), and the round-key read-back (R191). -/

section
namespace Sys2Proof

/-! ### RotWord and SubWord (44_key_schedule.md R181, R182) -/

theorem byteOf_rotWord (w : Word) :
    byteOf (rotWord w) 0 = byteOf w 1 ∧ byteOf (rotWord w) 1 = byteOf w 2 ∧
    byteOf (rotWord w) 2 = byteOf w 3 ∧ byteOf (rotWord w) 3 = byteOf w 0 :=
  byteOf_wordOf _ _ _ _

/-- A rotation by one byte puts the low three bytes above the high one, with no overlap. -/
theorem rotWord_eq_rotateLeft (w : Word) : rotWord w = w.rotateLeft 8 := by
  have hlow : w.toNat >>> 24 < 2 ^ 8 := by rw [Nat.shiftRight_eq_div_pow]; omega
  have hhigh : w.toNat <<< 8 % 2 ^ 32 = 2 ^ 8 * (w.toNat % 2 ^ 24) := by
    rw [Nat.shiftLeft_eq]; omega
  have h0 : (byteOf w 0).toNat = w.toNat / 2 ^ 24 % 256 := toNat_byteOf w 0
  have h1 : (byteOf w 1).toNat = w.toNat / 2 ^ 16 % 256 := toNat_byteOf w 1
  have h2 : (byteOf w 2).toNat = w.toNat / 2 ^ 8 % 256 := toNat_byteOf w 2
  have h3 : (byteOf w 3).toNat = w.toNat / 2 ^ 0 % 256 := toNat_byteOf w 3
  apply BitVec.eq_of_toNat_eq
  rw [BitVec.toNat_rotateLeft, hhigh, ← Nat.two_pow_add_eq_or_of_lt hlow, rotWord, toNat_wordOf,
    Nat.shiftRight_eq_div_pow, h0, h1, h2, h3]
  omega

@[simp] theorem byteOf_subWord (w : Word) (j : Fin 4) : byteOf (subWord w) j = sbox (byteOf w j) := by
  fin_cases j <;> simp [subWord]

/-! ### The cases of the recurrence (44_key_schedule.md R183) -/

section
variable {key : Vector Word 8} {nk i : Nat} {prev back : Word}

theorem nextWord_of_lt (h : i < nk) : nextWord key nk i prev back = key[i]?.getD 0 := if_pos h

theorem nextWord_of_mod_eq_zero (h : nk ≤ i) (hmod : i % nk = 0) : nextWord key nk i prev back =
    back ^^^ (subWord (rotWord prev) ^^^ rconWord (i / nk - 1)) :=
  (if_neg h.not_gt).trans (if_pos hmod)

theorem nextWord_of_midpoint (h : nk ≤ i) (hmid : nk = 8 ∧ i % nk = 4) :
    nextWord key nk i prev back = back ^^^ subWord prev := by
  have hmod : i % nk ≠ 0 := by omega
  exact (if_neg h.not_gt).trans ((if_neg hmod).trans (if_pos hmid))

theorem nextWord_otherwise (h : nk ≤ i) (hmod : i % nk ≠ 0) (hmid : ¬(nk = 8 ∧ i % nk = 4)) :
    nextWord key nk i prev back = back ^^^ prev :=
  (if_neg h.not_gt).trans ((if_neg hmod).trans (if_neg hmid))

end

/-! ### The words of a schedule (44_key_schedule.md R183, R190) -/

theorem Variant.nk_pos (v : Variant) : 0 < v.nk := by cases v <;> decide

/-- The store has room for every schedule (10_state.md R41). -/
theorem Variant.schedule_length_le (v : Variant) : 4 * (v.nr + 1) ≤ 60 := by cases v <;> decide

@[simp] theorem length_expand (key : Vector Word 8) (v : Variant) :
    (expand key v).length = 4 * (v.nr + 1) := by
  simp [expand]

theorem storeWord_schedule (key : Vector Word 8) (v : Variant) {i : Nat} (h : i < 60) :
    storeWord (schedule key v) i = (expand key v).getD i 0 :=
  storeWord_buildStore _ h

/-- The words beyond the schedule are zero. -/
theorem storeWord_schedule_eq_zero (key : Vector Word 8) {v : Variant} {i : Nat}
    (hi : 4 * (v.nr + 1) ≤ i) (h : i < 60) : storeWord (schedule key v) i = 0 := by
  rw [storeWord_schedule key v h, List.getD_eq_default _ _ (by simpa using hi)]

/-- A word of the schedule stands at its place in every expansion that has reached it. -/
theorem getD_expandRev_eq_storeWord (key : Vector Word 8) (v : Variant) {i n : Nat} (hi : i < n)
    (hn : n ≤ 4 * (v.nr + 1)) :
    (expandRev key v.nk n).getD (n - 1 - i) 0 = storeWord (schedule key v) i := by
  have hlen : i < 4 * (v.nr + 1) := hi.trans_le hn
  have hroom := v.schedule_length_le
  rw [storeWord_schedule key v (by omega), expand, List.getD_eq_getElem?_getD,
    List.getD_eq_getElem?_getD, List.getElem?_reverse (by simpa using hlen), length_expandRev,
    getElem?_expandRev key v.nk hi, getElem?_expandRev key v.nk hlen]

/-- The loop of R183: every word of the schedule is what the loop body makes of the words before it. -/
theorem storeWord_schedule_eq_nextWord (key : Vector Word 8) (v : Variant) {i : Nat}
    (hi : i < 4 * (v.nr + 1)) : storeWord (schedule key v) i =
      nextWord key v.nk i (storeWord (schedule key v) (i - 1))
        (storeWord (schedule key v) (i - v.nk)) := by
  have hword : storeWord (schedule key v) i = nextWord key v.nk i
      ((expandRev key v.nk i).getD 0 0) ((expandRev key v.nk i).getD (v.nk - 1) 0) := by
    rw [← getD_expandRev_eq_storeWord key v (Nat.lt_succ_self i) hi, expandRev]
    simp
  rw [hword]
  obtain hkey | hrec := Nat.lt_or_ge i v.nk
  · rw [nextWord_of_lt hkey, nextWord_of_lt hkey]
  · have hpos := v.nk_pos
    have hprev := getD_expandRev_eq_storeWord key v (i := i - 1) (n := i) (by omega) (by omega)
    have hback := getD_expandRev_eq_storeWord key v (i := i - v.nk) (n := i) (by omega) (by omega)
    have hone : i - 1 - (i - 1) = 0 := by omega
    have hnk : i - 1 - (i - v.nk) = v.nk - 1 := by omega
    rw [← hprev, ← hback, hone, hnk]

/-- Settles O18: each word is a value of `nextWord`, in the case that applies. -/
theorem expansionFollowsTheRecurrence : Obligations.ExpansionFollowsTheRecurrence := by
  intro key v i hi
  have hword := storeWord_schedule_eq_nextWord key v hi
  refine ⟨?key, fun h hmod => hword.trans (nextWord_of_mod_eq_zero h hmod),
    fun h hnk hmod => hword.trans (nextWord_of_midpoint h ⟨hnk, hmod⟩),
    fun h hmod hmid => hword.trans (nextWord_otherwise h hmod hmid)⟩
  case key =>
    rintro j hlt rfl
    rw [hword, nextWord_of_lt hlt]
    simp

namespace Machine

/-! ### The commands (44_key_schedule.md R188 to R190) -/

/-- An opcode whose row of the decoder is in format N has that format's rule. -/
theorem formatNRule_of_decode {opc : Byte} {i : Instr}
    (h : ∀ v, opcField v = opc → decode v = formatN v i) : FormatNRule opc i := by
  intro v s hopc
  by_cases hres : v.extractLsb' 0 24 = 0#24
  · rw [if_pos hres]
    exact execute_of_command ((h v hopc).trans (if_pos hres)) s
  · rw [if_neg hres]
    exact execute_of_illegal ((h v hopc).trans (if_neg hres)) s

/-- Settles O17: both commands write a scalar result, whose bytes are those of RotWord and SubWord, and
each opcode has a row of format N in the decoder. -/
theorem rotwordAndSubwordTransformOpw : Obligations.RotwordAndSubwordTransformOpw := by
  refine ⟨fun s => ⟨rotWord s.opw, scalar_eq _ s, rotWord_eq_rotateLeft s.opw, byteOf_rotWord s.opw⟩,
    fun s => ⟨subWord s.opw, scalar_eq _ s, byteOf_subWord s.opw⟩, ?_, ?_⟩
  all_goals exact formatNRule_of_decode fun v hopc => by rw [decode, hopc]; rfl

/-- What a successful EXPAND writes, with the schedule as one value. -/
theorem succeed_setSchedule (v : Variant) (w : Store) (s : State) : succeed (s.setSchedule v w) =
    { s with
      w := w, sv := true, variant := v.code, nk := BitVec.ofNat 4 v.nk, nr := BitVec.ofNat 4 v.nr,
      errCode := 0 } := rfl

theorem exec_expand_of_some {s : State} {v : Variant} (h : selectVariant s.keyLen = some v) :
    exec .expand s = .next { s with
      w := schedule s.key v, sv := true, variant := v.code, nk := BitVec.ofNat 4 v.nk,
      nr := BitVec.ofNat 4 v.nr, errCode := 0 } := by
  rw [← succeed_setSchedule]
  exact execExpand_of_some h

/-- Settles O19: the key length selects the variant whose schedule is loaded, or none, and the words beyond
the expansion are zero. -/
theorem expandBuildsTheSchedule : Obligations.ExpandBuildsTheSchedule := by
  refine ⟨fun s => ⟨fun h => ?aes128, fun h => ?aes192, fun h => ?aes256, fun h => ?illegal⟩,
    fun key v i => storeWord_schedule_eq_zero key, ?format⟩
  case aes128 => exact exec_expand_of_some (selectVariant_eq_some.mpr (.inl ⟨h, rfl⟩))
  case aes192 => exact exec_expand_of_some (selectVariant_eq_some.mpr (.inr (.inl ⟨h, rfl⟩)))
  case aes256 => exact exec_expand_of_some (selectVariant_eq_some.mpr (.inr (.inr ⟨h, rfl⟩)))
  case illegal => exact execExpand_of_none (not_keyLengthLegal_iff.mp h)
  case format => exact formatNRule_of_decode fun v hopc => by rw [decode, hopc]; rfl

/-! ### The round-key read-back (44_key_schedule.md R191) -/

/-- RKSEL selects a round key where the index of the word is in the store. -/
theorem rkOut_eq_getElem {s : State} {c : Fin 4} {i : Fin 60}
    (h : i.val = 4 * s.rkSel.toNat + c.val) : rkOut c s = s.w[i] := by
  have hsel : s.rkSel.toNat ≤ 14 := by omega
  rw [rkOut, if_pos hsel, ← h, storeWord_of_lt s.w i.isLt]
  rfl

theorem rkOut_of_rkSel_eq_fifteen {s : State} (h : s.rkSel = 15) (c : Fin 4) : rkOut c s = 0 := by
  simp [rkOut, h]

/-- Settles O21: the offset is that of RKOUT[c], so the read answers `rkOut c`. -/
theorem roundKeyReadBack : Obligations.RoundKeyReadBack := by
  intro s c off hoff
  obtain rfl : off = regOffset (.rkOut c) := eq_ofNat_of_toNat_eq hoff
  have hread : serve (.read (regOffset (.rkOut c)) .word) s =
      .next { s with response := some (.okayData (rkOut c s)) } := serve_read_regOffset (.rkOut c) s
  exact ⟨fun i hi => rkOut_eq_getElem hi ▸ hread, fun h => rkOut_of_rkSel_eq_fifteen h c ▸ hread⟩

end Machine

end Sys2Proof
end

/-! PROOFS. The obligations of 45_state_transforms.md: the transforms entry by entry (R210 to R216) and
their commands (R218 to R224). -/

section
namespace Sys2Proof

open Reference

/-! ### AddRoundKey (45_state_transforms.md R210) -/

/-- Two words with the same bytes are the same. -/
theorem word_eq_of_byteOf {v w : Word} (h : ∀ j, byteOf v j = byteOf w j) : v = w := by
  rw [← wordOf_byteOf v, ← wordOf_byteOf w, h 0, h 1, h 2, h 3]

@[simp] theorem byteOf_xor (v w : Word) (j : Fin 4) :
    byteOf (v ^^^ w) j = byteOf v j ^^^ byteOf w j := by
  fin_cases j <;> exact BitVec.extractLsb'_xor

@[simp] theorem entry_roundKey (w : Store) (r : Nat) (j c : Fin 4) :
    Block.entry (roundKey w r) j c = byteOf (storeWord w (4 * r + c.val)) j :=
  Block.entry_build _ j c

@[simp] theorem entry_addRoundKey (w : Store) (r : Nat) (b : Block) (j c : Fin 4) :
    Block.entry (addRoundKey w r b) j c =
      Block.entry b j c ^^^ byteOf (storeWord w (4 * r + c.val)) j := by
  rw [addRoundKey, Block.entry_build, entry_roundKey]

/-- The word form of R210: the columns agree because their bytes do. -/
theorem column_addRoundKey (w : Store) (r : Nat) (b : Block) (c : Fin 4) :
    Block.column (addRoundKey w r b) c = Block.column b c ^^^ storeWord w (4 * r + c.val) :=
  word_eq_of_byteOf fun j => by
    rw [Block.byteOf_column, entry_addRoundKey, byteOf_xor, Block.byteOf_column]

/-- A byte XORed twice with the same byte is that byte again. -/
@[simp] theorem addRoundKey_addRoundKey (w : Store) (r : Nat) (b : Block) :
    addRoundKey w r (addRoundKey w r b) = b :=
  Block.eq_of_entry fun j c => by
    rw [entry_addRoundKey, entry_addRoundKey, BitVec.xor_assoc, BitVec.xor_self, BitVec.xor_zero]

/-! ### The S-box and the row rotations (45_state_transforms.md R211 to R214) -/

@[simp] theorem entry_subBytes (b : Block) (r c : Fin 4) :
    Block.entry (subBytes b) r c = sbox (Block.entry b r c) :=
  Block.entry_build _ r c

@[simp] theorem entry_invSubBytes (b : Block) (r c : Fin 4) :
    Block.entry (invSubBytes b) r c = isbox (Block.entry b r c) :=
  Block.entry_build _ r c

@[simp] theorem entry_shiftRows (b : Block) (r c : Fin 4) :
    Block.entry (shiftRows b) r c = Block.entry b r (c + r) :=
  Block.entry_build _ r c

@[simp] theorem entry_invShiftRows (b : Block) (r c : Fin 4) :
    Block.entry (invShiftRows b) r c = Block.entry b r (c - r) :=
  Block.entry_build _ r c

/-! ### The column products (45_state_transforms.md R215, R216) -/

@[simp] theorem entry_mixColumns (b : Block) (r c : Fin 4) :
    Block.entry (mixColumns b) r c = mixColumn (Block.entry b 0 c) (Block.entry b 1 c)
      (Block.entry b 2 c) (Block.entry b 3 c) r :=
  Block.entry_build _ r c

@[simp] theorem entry_invMixColumns (b : Block) (r c : Fin 4) :
    Block.entry (invMixColumns b) r c = invMixColumn (Block.entry b 0 c) (Block.entry b 1 c)
      (Block.entry b 2 c) (Block.entry b 3 c) r :=
  Block.entry_build _ r c

/-- The rows of a cyclic matrix applied to a column: each has the first row's coefficients, one place
further to the right than the row above. -/
theorem matrixTimes_cyclicMatrix (a0 a1 a2 a3 : Byte) (b : Block) (c : Fin 4) :
    matrixTimes (cyclicMatrix #v[a0, a1, a2, a3]) b 0 c =
      fieldMul a0 (Block.entry b 0 c) ^^^ fieldMul a1 (Block.entry b 1 c) ^^^
        fieldMul a2 (Block.entry b 2 c) ^^^ fieldMul a3 (Block.entry b 3 c) ∧
    matrixTimes (cyclicMatrix #v[a0, a1, a2, a3]) b 1 c =
      fieldMul a3 (Block.entry b 0 c) ^^^ fieldMul a0 (Block.entry b 1 c) ^^^
        fieldMul a1 (Block.entry b 2 c) ^^^ fieldMul a2 (Block.entry b 3 c) ∧
    matrixTimes (cyclicMatrix #v[a0, a1, a2, a3]) b 2 c =
      fieldMul a2 (Block.entry b 0 c) ^^^ fieldMul a3 (Block.entry b 1 c) ^^^
        fieldMul a0 (Block.entry b 2 c) ^^^ fieldMul a1 (Block.entry b 3 c) ∧
    matrixTimes (cyclicMatrix #v[a0, a1, a2, a3]) b 3 c =
      fieldMul a1 (Block.entry b 0 c) ^^^ fieldMul a2 (Block.entry b 1 c) ^^^
        fieldMul a3 (Block.entry b 2 c) ^^^ fieldMul a0 (Block.entry b 3 c) :=
  ⟨rfl, rfl, rfl, rfl⟩

/-- R215 row by row: with the multipliers for the products by 2, 3 and 1, the rows of the matrix are the
four equations. -/
theorem entry_mixColumns_eq_matrixTimes (b : Block) (r c : Fin 4) :
    Block.entry (mixColumns b) r c = matrixTimes mixMatrix b r c := by
  obtain ⟨h0, h1, h2, h3⟩ := matrixTimes_cyclicMatrix 2 3 1 1 b c
  rw [fieldMul_two_left, fieldMul_three_left, fieldMul_one_left, fieldMul_one_left] at h0 h1 h2 h3
  rw [entry_mixColumns]
  fin_cases r
  exacts [h0.symm, h1.symm, h2.symm, h3.symm]

/-- R216 row by row, with the multipliers for the products by 14, 11, 13 and 9. -/
theorem entry_invMixColumns_eq_matrixTimes (b : Block) (r c : Fin 4) :
    Block.entry (invMixColumns b) r c = matrixTimes invMixMatrix b r c := by
  obtain ⟨h0, h1, h2, h3⟩ := matrixTimes_cyclicMatrix 14 11 13 9 b c
  rw [fieldMul_fourteen_left, fieldMul_eleven_left, fieldMul_thirteen_left, fieldMul_nine_left]
    at h0 h1 h2 h3
  rw [entry_invMixColumns]
  fin_cases r
  exacts [h0.symm, h1.symm, h2.symm, h3.symm]

namespace Machine

/-! ### ADDRK (45_state_transforms.md R218) -/

/-- ADDRK with a valid schedule fails on a round past the last. -/
theorem execAddrk_of_nr_lt {r : Nat} {s : State} (hsv : s.sv = true) (h : s.nr.toNat < r) :
    execAddrk r s = raiseCmdError .roundOutOfRange s := by
  simp [execAddrk, hsv, h]

/-- ADDRK with a valid schedule and a round in range XORs the round key into the state. -/
theorem execAddrk_of_le_nr {r : Nat} {s : State} (hsv : s.sv = true) (h : r ≤ s.nr.toNat) :
    execAddrk r s = transform (addRoundKey s.w r) s := by
  simp [execAddrk, hsv, h.not_gt]

/-- An opcode whose row of the decoder is in format R has that format's rule. -/
theorem formatRRule_of_decode {opc : Byte} {i : Nat → Instr}
    (h : ∀ v, opcField v = opc → decode v = formatR v fun r => i r.toNat) : FormatRRule opc i := by
  intro v s hopc
  by_cases hres : v.extractLsb' 4 20 = 0#20
  · rw [if_pos hres]
    exact execute_of_command ((h v hopc).trans (if_pos hres)) s
  · rw [if_neg hres]
    exact execute_of_illegal ((h v hopc).trans (if_neg hres)) s

/-- Settles O22: each of ADDRK's three outcomes in its case, with `addRoundKey` as the new matrix in the
first, and the opcode has the row of format R in the decoder. -/
theorem addrkXorsTheRoundKey : Obligations.AddrkXorsTheRoundKey := by
  refine ⟨fun s r => ⟨fun hsv hr => ?success, fun hsv => execAddrk_of_sv_false r hsv,
    fun hsv hr => execAddrk_of_nr_lt hsv hr⟩, addRoundKey_addRoundKey,
    formatRRule_of_decode fun v hopc => decode_eq_formatR hopc⟩
  case success =>
    exact ⟨addRoundKey s.w r s.block, execAddrk_of_le_nr hsv hr, column_addRoundKey s.w r s.block,
      entry_addRoundKey s.w r s.block⟩

/-! ### The commands without a check (45_state_transforms.md R219 to R224) -/

/-- Settles O24: both commands are transforms, `subBytes` and `invSubBytes` map every entry, and each
opcode has a row of format N in the decoder. -/
theorem substitutionCommandsMapEveryByte : Obligations.SubstitutionCommandsMapEveryByte := by
  refine ⟨fun s => ⟨subBytes s.block, transform_eq _ s, entry_subBytes s.block⟩,
    fun s => ⟨invSubBytes s.block, transform_eq _ s, entry_invSubBytes s.block⟩, ?_, ?_⟩
  all_goals exact formatNRule_of_decode fun v hopc => by rw [decode, hopc]; rfl

/-- Settles O25: both commands are transforms, the column index modulo 4 is the sum or difference in
`Fin 4`, and each opcode has a row of format N in the decoder. -/
theorem shiftCommandsRotateTheRows : Obligations.ShiftCommandsRotateTheRows := by
  refine ⟨fun s => ⟨shiftRows s.block, transform_eq _ s, fun r c d hd => ?left⟩,
    fun s => ⟨invShiftRows s.block, transform_eq _ s, fun r c d hd => ?right⟩, ?_, ?_⟩
  case left =>
    have hcol : d = c + r := Fin.ext hd
    rw [entry_shiftRows, hcol]
  case right =>
    have hcol : d = c - r := Fin.ext (by rw [hd, Fin.val_sub]; omega)
    rw [entry_invShiftRows, hcol]
  all_goals exact formatNRule_of_decode fun v hopc => by rw [decode, hopc]; rfl

/-- Settles O26: both commands are transforms, each new entry is the row's product with the column,
and each opcode has a row of format N in the decoder. -/
theorem mixCommandsMultiplyByTheMatrix : Obligations.MixCommandsMultiplyByTheMatrix := by
  refine ⟨fun s => ⟨mixColumns s.block, transform_eq _ s, entry_mixColumns_eq_matrixTimes s.block⟩,
    fun s => ⟨invMixColumns s.block, transform_eq _ s, entry_invMixColumns_eq_matrixTimes s.block⟩,
    ?_, ?_⟩
  all_goals exact formatNRule_of_decode fun v hopc => by rw [decode, hopc]; rfl

end Machine

end Sys2Proof
end

/-! PROOFS. The obligations of 46_cipher.md: the rounds of the two pipelines (R240, R241) and the commands
ENCRYPT and DECRYPT (R244, R245). -/

section
namespace Sys2Proof

/-! ### The rounds one by one (46_cipher.md R240, R241) -/

/-- The state matrix of R240 after AddRoundKey 0 and the first `k` full rounds. -/
def forwardRounds (w : Store) (b : Block) : Nat → Block
  | 0 => addRoundKey w 0 b
  | k + 1 => cipherRound w (forwardRounds w b k) (k + 1)

/-- The state matrix of R241 after AddRoundKey Nr and the first `k` full rounds, the last of which is
round `nr - k`. -/
def inverseRounds (w : Store) (nr : Nat) (b : Block) : Nat → Block
  | 0 => addRoundKey w nr b
  | k + 1 => invCipherRound w (inverseRounds w nr b k) (nr - (k + 1))

/-- A loop over `0 .. n-1` computes the entry `n` of any sequence whose steps are the loop's. -/
theorem foldl_range_eq_of_step {α : Type} {f : α → Nat → α} {g : Nat → α}
    (hstep : ∀ k, g (k + 1) = f (g k) k) (n : Nat) : (List.range n).foldl f (g 0) = g n := by
  induction n with
  | zero => rfl
  | succ n ih => rw [List.range_succ, List.foldl_append, ih, hstep]; rfl

/-- The loop over `1 .. n` runs `n` full rounds. -/
theorem foldl_cipherRound (w : Store) (b : Block) (n : Nat) :
    (List.range' 1 n).foldl (cipherRound w) (addRoundKey w 0 b) = forwardRounds w b n := by
  rw [List.range'_eq_map_range, List.foldl_map]
  exact foldl_range_eq_of_step (g := forwardRounds w b) (fun k => by rw [Nat.add_comm 1 k]; rfl) n

/-- The loop over `Nr-1 .. 1` runs `Nr-1` full rounds. -/
theorem foldl_invCipherRound (w : Store) (nr : Nat) (b : Block) :
    (List.range' 1 (nr - 1)).reverse.foldl (invCipherRound w) (addRoundKey w nr b) =
      inverseRounds w nr b (nr - 1) := by
  rw [List.reverse_range', List.foldl_map]
  refine foldl_range_eq_of_step (g := inverseRounds w nr b) (fun k => ?_) (nr - 1)
  have hround : 1 + (nr - 1) - 1 - k = nr - (k + 1) := by omega
  rw [hround, inverseRounds]

theorem cipher_eq_forwardRounds (w : Store) (nr : Nat) (b : Block) :
    cipher w nr b = addRoundKey w nr (shiftRows (subBytes (forwardRounds w b (nr - 1)))) := by
  rw [cipher, foldl_cipherRound]

theorem invCipher_eq_inverseRounds (w : Store) (nr : Nat) (b : Block) :
    invCipher w nr b =
      addRoundKey w 0 (invSubBytes (invShiftRows (inverseRounds w nr b (nr - 1)))) := by
  rw [invCipher, foldl_invCipherRound]

namespace Machine

/-! ### The commands (46_cipher.md R243 to R245) -/

/-- What a successful cipher command writes, with the schedule and the new matrix as values. -/
theorem succeed_setBlock_setSchedule (v : Variant) (w : Store) (b : Block) (s : State) :
    succeed ((s.setSchedule v w).setBlock b) =
      { s with
        block := b, w := w, sv := true, variant := v.code, nk := BitVec.ofNat 4 v.nk,
        nr := BitVec.ofNat 4 v.nr, errCode := 0 } := rfl

/-- A cipher command with legal lengths, its writes field by field. -/
theorem runCipher_of_some (pipeline : Store → Nat → Block → Block) {s : State} {v : Variant}
    (h : selectVariant s.keyLen = some v) (hb : s.blkLen = 16#8) :
    runCipher pipeline s = .next { s with
      block := pipeline (schedule s.key v) v.nr s.block,
      w := schedule s.key v, sv := true, variant := v.code, nk := BitVec.ofNat 4 v.nk,
      nr := BitVec.ofNat 4 v.nr, errCode := 0 } := by
  have hlen : s.blkLen = Config.blockBytes := hb
  simp only [runCipher, h, if_pos hlen, loadSchedule, succeed_setBlock_setSchedule]

theorem runCipher_of_not_keyLengthLegal (pipeline : Store → Nat → Block → Block) {s : State}
    (h : ¬KeyLengthLegal s) : runCipher pipeline s = .next { s with errCode := 1 } :=
  runCipher_of_none pipeline (not_keyLengthLegal_iff.mp h)

theorem exists_selectVariant_eq_some {s : State} (h : KeyLengthLegal s) :
    ∃ v, selectVariant s.keyLen = some v :=
  Option.ne_none_iff_exists'.mp fun hn => not_keyLengthLegal_iff.mpr hn h

/-- KEYLEN is legal, so the check of BLKLEN is the one that fails. -/
theorem runCipher_of_keyLengthLegal_of_blkLen_ne (pipeline : Store → Nat → Block → Block) {s : State}
    (h : KeyLengthLegal s) (hb : s.blkLen ≠ 16#8) :
    runCipher pipeline s = .next { s with errCode := 2 } := by
  obtain ⟨v, hv⟩ := exists_selectVariant_eq_some h
  exact runCipher_of_blkLen_ne pipeline hv hb

/-- Settles O28: the sequence is `forwardRounds`, the outcomes are those of `runCipher`, and the opcode
has a row of format N in the decoder. -/
theorem encryptRunsTheForwardPipeline : Obligations.EncryptRunsTheForwardPipeline := by
  refine ⟨fun s v hv hb => ?success, fun s => runCipher_of_not_keyLengthLegal cipher,
    fun s => runCipher_of_keyLengthLegal_of_blkLen_ne cipher,
    formatNRule_of_decode fun v hopc => by rw [decode, hopc]; rfl⟩
  case success =>
    refine ⟨forwardRounds (schedule s.key v) s.block, rfl, fun k _ => rfl, ?_⟩
    rw [← cipher_eq_forwardRounds]
    exact runCipher_of_some cipher hv hb

/-- Settles O29: the sequence is `inverseRounds`, the outcomes are those of `runCipher`, and the opcode
has a row of format N in the decoder. -/
theorem decryptRunsTheInversePipeline : Obligations.DecryptRunsTheInversePipeline := by
  refine ⟨fun s v hv hb => ?success, fun s => runCipher_of_not_keyLengthLegal invCipher,
    fun s => runCipher_of_keyLengthLegal_of_blkLen_ne invCipher,
    formatNRule_of_decode fun v hopc => by rw [decode, hopc]; rfl⟩
  case success =>
    refine ⟨inverseRounds (schedule s.key v) v.nr s.block, rfl, fun k _ => rfl, ?_⟩
    rw [← invCipher_eq_inverseRounds]
    exact runCipher_of_some invCipher hv hb

end Machine

end Sys2Proof
end

/-! PROOFS. The obligations of 60_exceptions.md: what a failing command leaves unchanged (R262), and which
error a command word reports (R263, R265). -/

section
namespace Sys2Proof.Machine

/-! ### The two ways a command ends (60_exceptions.md R262, R263) -/

/-- The outcome from `s` is an error raised in `s` itself, before anything was written, or a success. -/
def RaisesOrSucceeds (s : State) (o : Result) : Prop :=
  (∃ e, o = raiseCmdError e s) ∨ ∃ t, o = .next (succeed t)

theorem RaisesOrSucceeds.raise {s : State} {o : Result} {e : CmdError} (h : o = raiseCmdError e s) :
    RaisesOrSucceeds s o := .inl ⟨e, h⟩

theorem RaisesOrSucceeds.success {s t : State} {o : Result} (h : o = .next (succeed t)) :
    RaisesOrSucceeds s o := .inr ⟨t, h⟩

theorem execExpand_raisesOrSucceeds (s : State) : RaisesOrSucceeds s (execExpand s) := by
  cases h : selectVariant s.keyLen with
  | none => exact .raise (execExpand_of_none h)
  | some v => exact .success (execExpand_of_some h)

theorem runCipher_raisesOrSucceeds (pipeline : Store → Nat → Block → Block) (s : State) :
    RaisesOrSucceeds s (runCipher pipeline s) := by
  obtain ⟨-, h⟩ | ⟨v, -, -, h⟩ | ⟨v, -, -, h⟩ := runCipher_cases pipeline s
  · exact .raise h
  · exact .raise h
  · exact .success h

theorem execAddrk_raisesOrSucceeds (r : Nat) (s : State) : RaisesOrSucceeds s (execAddrk r s) := by
  obtain ⟨-, h⟩ | ⟨-, -, h⟩ | ⟨-, -, h⟩ := execAddrk_cases r s
  · exact .raise h
  · exact .raise h
  · exact .success h

/-- The commands with a check make it before they write; the scalar commands and the state transforms have
none, and succeed. -/
theorem exec_raisesOrSucceeds (i : Instr) (s : State) : RaisesOrSucceeds s (exec i s) := by
  cases i with
  | expand => exact execExpand_raisesOrSucceeds s
  | encrypt => exact runCipher_raisesOrSucceeds cipher s
  | decrypt => exact runCipher_raisesOrSucceeds invCipher s
  | addrk r => exact execAddrk_raisesOrSucceeds r s
  | _ => exact .success rfl

theorem execute_raisesOrSucceeds (v : Word) (s : State) : RaisesOrSucceeds s (execute v s) := by
  cases h : decode v with
  | command i => exact execute_of_command h s ▸ exec_raisesOrSucceeds i s
  | illegal why => exact .raise (execute_of_illegal h s)

/-- A nonzero ERRCODE shows that the command raised an error, and raising one writes ERRCODE alone. -/
theorem RaisesOrSucceeds.changes_only_errCode {s : State} {o : Result} (h : RaisesOrSucceeds s o) :
    ∃ t, o = .next t ∧ (t.errCode ≠ 0 → t = { s with errCode := t.errCode }) := by
  obtain ⟨e, rfl⟩ | ⟨t, rfl⟩ := h
  · exact ⟨s.setErrCode e.code, rfl, fun _ => rfl⟩
  · exact ⟨succeed t, rfl, fun hcode => absurd rfl hcode⟩

/-- Settles O34: every command, and every word written to CMD, raises its error or succeeds. -/
theorem failingCommandsWriteOnlyErrcode : Obligations.FailingCommandsWriteOnlyErrcode :=
  ⟨fun i s => (exec_raisesOrSucceeds i s).changes_only_errCode,
    fun v s => (execute_raisesOrSucceeds v s).changes_only_errCode⟩

/-- Settles O35: `execute_reports`, where each command's checks are taken in the order of R265 and an
illegal word is found by the decoder, before any of them. -/
theorem commandsReportTheFirstError : Obligations.CommandsReportTheFirstError := execute_reports

end Sys2Proof.Machine
end

/-! PROOFS. The obligations left over from the other families: the encoder and decoder as inverses
(30_encoding.md), the laws of the field, the S-box and rcon (41 to 43), the noninterference and inverse laws
of the schedule, the transforms and the cipher (44 to 46), the frames and the invariant of the step (10, 60,
70), the bus and its port (20), and the boot sequence (70_reset_and_hazards.md). -/

section
namespace Sys2Proof

/-! ### Command words and their fields (30_encoding.md R100 to R103, R108) -/

theorem toNat_commandWord (opc : Byte) (x : BitVec 24) :
    (commandWord opc x).toNat = opc.toNat * 2 ^ 24 + x.toNat :=
  toNat_append_eq opc x

@[simp] theorem opcField_commandWord (opc : Byte) (x : BitVec 24) : opcField (commandWord opc x) = opc := by
  rw [opcField, Machine.extractLsb'_eq_iff, toNat_commandWord]
  omega

@[simp] theorem operand_commandWord (opc : Byte) (x : BitVec 24) :
    (commandWord opc x).extractLsb' 0 24 = x := by
  rw [Machine.extractLsb'_eq_iff, toNat_commandWord]
  omega

theorem imm8Field_commandWord (opc b : Byte) : imm8Field (commandWord opc (b.setWidth 24)) = b := by
  rw [imm8Field, Machine.extractLsb'_eq_iff, toNat_commandWord, BitVec.toNat_setWidth]
  omega

/-- RND and the reserved bits above it, for a round that RND can hold. -/
theorem rndField_commandWord (opc : Byte) {r : Nat} (hr : r ≤ 15) :
    rndField (commandWord opc (BitVec.ofNat 24 r)) = BitVec.ofNat 4 r ∧
      (commandWord opc (BitVec.ofNat 24 r)).extractLsb' 4 20 = 0#20 := by
  rw [rndField, Machine.extractLsb'_eq_iff, Machine.extractLsb'_eq_iff, toNat_commandWord]
  simp only [BitVec.toNat_ofNat]
  omega

/-- With zero in the `n` bits above it, a word is its opcode and its low `k` bits as a number. -/
theorem commandWord_fields {v : Word} {k n : Nat} (hkn : k + n = 24) (h : v.extractLsb' k n = 0) :
    commandWord (opcField v) (BitVec.ofNat 24 (v.extractLsb' 0 k).toNat) = v := by
  have hlow : v.toNat % 2 ^ 24 = v.toNat % 2 ^ k := by
    rw [← hkn, Nat.pow_add, Nat.mod_mul, Machine.extractLsb'_eq_iff.mp h]
    simp
  have hlt : v.toNat % 2 ^ k < 2 ^ 24 := hlow ▸ Nat.mod_lt _ (by decide)
  apply BitVec.eq_of_toNat_eq
  rw [toNat_commandWord, BitVec.toNat_ofNat, BitVec.extractLsb'_toNat, Nat.shiftRight_zero,
    Nat.mod_eq_of_lt hlt, ← hlow, opcField, BitVec.extractLsb'_toNat, Nat.shiftRight_eq_div_pow]
  omega

/-! ### Decoding an encoding (30_encoding.md R105, R108) -/

theorem formatI_commandWord (opc b : Byte) (f : Byte → Instr) :
    formatI (commandWord opc (b.setWidth 24)) f = .command (f b) := by
  rw [formatI, if_pos (Laws.Reserved.reserved_of_operand opc b), imm8Field_commandWord]

theorem formatN_commandWord (opc : Byte) (i : Instr) : formatN (commandWord opc 0#24) i = .command i :=
  if_pos (operand_commandWord opc 0#24)

theorem formatR_commandWord (opc : Byte) (f : BitVec 4 → Instr) {r : Nat} (hr : r ≤ 15) :
    formatR (commandWord opc (BitVec.ofNat 24 r)) f = .command (f (BitVec.ofNat 4 r)) := by
  obtain ⟨hrnd, hres⟩ := rndField_commandWord opc hr
  rw [formatR, if_pos hres, hrnd]

/-- The index of RCON is encoded as the byte it is. -/
theorem encode_rcon {n : Nat} (hn : n ≤ 255) :
    encode (.rcon n) = commandWord 0x30#8 ((BitVec.ofNat 8 n).setWidth 24) := by
  rw [encode, ← BitVec.ofNat_toNat, BitVec.toNat_ofNat, Nat.mod_eq_of_lt (by omega)]

/-- Settles O6: the decoder finds the row of the opcode that the encoder wrote, and each format gives back
the operand it was given. -/
theorem decodeInvertsEncode : Obligations.DecodeInvertsEncode := by
  intro i hwf
  cases i with
  | xtime b | gmul3 b | gmul9 b | gmul11 b | gmul13 b | gmul14 b | sbox b | isbox b =>
    rw [encode, decode, opcField_commandWord]
    exact formatI_commandWord _ b _
  | rcon n =>
    have hn : n ≤ 255 := of_decide_eq_true hwf
    have hval : (BitVec.ofNat 8 n).toNat = n := Nat.mod_eq_of_lt (by omega)
    rw [encode_rcon hn, decode, opcField_commandWord]
    refine (formatI_commandWord _ _ _).trans ?_
    rw [hval]
  | addrk r =>
    have hr : r ≤ 15 := of_decide_eq_true hwf
    have hval : (BitVec.ofNat 4 r).toNat = r := Nat.mod_eq_of_lt (by omega)
    rw [encode, decode_eq_formatR (opcField_commandWord _ _), formatR_commandWord _ _ hr, hval]
  | _ =>
    rw [encode, decode, opcField_commandWord]
    exact formatN_commandWord _ _

/-! ### Encoding a decoding -/

/-- `i` is a well-formed command with the encoding `v`. -/
def EncodesTo (i : Instr) (v : Word) : Prop := WellFormed i = true ∧ encode i = v

/-- An opcode of format I: its row of the decoder and its row of the encoder. -/
theorem encodesTo_of_formatI {v : Word} (h : opcField v ∈ Reference.formatIOpcodes) :
    ∃ f, decode v = formatI v f ∧
      ∀ b, EncodesTo (f b) (commandWord (opcField v) (BitVec.ofNat 24 b.toNat)) := by
  simp only [Reference.formatIOpcodes, List.mem_cons, List.not_mem_nil, or_false] at h
  obtain h | h | h | h | h | h | h | h | h := h <;>
    exact ⟨_, by rw [decode, h]; rfl, fun b => by
      simp [EncodesTo, WellFormed, encode, h, Nat.le_of_lt_succ b.isLt]⟩

/-- An opcode of format N, likewise. -/
theorem encodesTo_of_formatN {v : Word} (h : opcField v ∈ Reference.formatNOpcodes) :
    ∃ i, decode v = formatN v i ∧ EncodesTo i (commandWord (opcField v) 0#24) := by
  simp only [Reference.formatNOpcodes, List.mem_cons, List.not_mem_nil, or_false] at h
  obtain h | h | h | h | h | h | h | h | h | h | h := h <;>
    exact ⟨_, by rw [decode, h]; rfl, rfl, by rw [h]; rfl⟩

/-- ADDRK, the one command of format R. -/
theorem encodesTo_addrk (r : BitVec 4) :
    EncodesTo (.addrk r.toNat) (commandWord 0x50#8 (BitVec.ofNat 24 r.toNat)) :=
  ⟨decide_eq_true (Nat.le_of_lt_succ r.isLt), rfl⟩

theorem formatI_eq_command {v : Word} {f : Byte → Instr} {i : Instr} :
    formatI v f = .command i ↔ v.extractLsb' 8 16 = 0 ∧ f (imm8Field v) = i := by
  unfold formatI; split <;> simp_all

theorem formatN_eq_command {v : Word} {i j : Instr} :
    formatN v j = .command i ↔ v.extractLsb' 0 24 = 0 ∧ j = i := by
  unfold formatN; split <;> simp_all

theorem formatR_eq_command {v : Word} {f : BitVec 4 → Instr} {i : Instr} :
    formatR v f = .command i ↔ v.extractLsb' 4 20 = 0 ∧ f (rndField v) = i := by
  unfold formatR; split <;> simp_all

/-- Settles O7: a legal word has its operand below zero reserved bits, so the encoder, which writes the
same opcode, writes the same word. -/
theorem encodeInvertsDecode : Obligations.EncodeInvertsDecode := by
  intro v i hd
  change EncodesTo i v
  obtain hill | hI | hN | hR := opcode_cases (opcField v)
  · simp [decode_of_illegalOpcode hill] at hd
  · obtain ⟨f, hrow, henc⟩ := encodesTo_of_formatI hI
    obtain ⟨hres, rfl⟩ := formatI_eq_command.mp (hrow ▸ hd)
    have hv : commandWord (opcField v) (BitVec.ofNat 24 (imm8Field v).toNat) = v :=
      commandWord_fields (by decide) hres
    simpa only [hv] using henc (imm8Field v)
  · obtain ⟨j, hrow, henc⟩ := encodesTo_of_formatN hN
    obtain ⟨hres, rfl⟩ := formatN_eq_command.mp (hrow ▸ hd)
    have hv : commandWord (opcField v) 0#24 = v := by
      simpa only [BitVec.toNat_of_zero_length] using commandWord_fields (k := 0) (by decide) hres
    simpa only [hv] using henc
  · obtain ⟨hres, rfl⟩ := formatR_eq_command.mp (decode_eq_formatR hR ▸ hd)
    have hv : commandWord (opcField v) (BitVec.ofNat 24 (rndField v).toNat) = v :=
      commandWord_fields (by decide) hres
    simpa only [← hR, hv] using encodesTo_addrk (rndField v)

end Sys2Proof

namespace Sys2Proof

open Reference

/-! ### The multipliers are linear (41_galois.md R138) -/

theorem gmul3_xor (a b : Byte) : gmul3 (a ^^^ b) = gmul3 a ^^^ gmul3 b := by
  simp only [gmul3, xtime_xor]; ac_rfl

theorem gmul9_xor (a b : Byte) : gmul9 (a ^^^ b) = gmul9 a ^^^ gmul9 b := by
  simp only [gmul9, xtime_xor]; ac_rfl

theorem gmul11_xor (a b : Byte) : gmul11 (a ^^^ b) = gmul11 a ^^^ gmul11 b := by
  simp only [gmul11, gmul9_xor, xtime_xor]; ac_rfl

theorem gmul13_xor (a b : Byte) : gmul13 (a ^^^ b) = gmul13 a ^^^ gmul13 b := by
  simp only [gmul13, gmul9_xor, xtime_xor]; ac_rfl

theorem gmul14_xor (a b : Byte) : gmul14 (a ^^^ b) = gmul14 a ^^^ gmul14 b := by
  simp only [gmul14, xtime_xor]; ac_rfl

/-- Settles O11: xtime is additive, and the multipliers are sums of its iterates. -/
theorem galoisProductsAreLinear : Obligations.GaloisProductsAreLinear := fun a b =>
  ⟨xtime_xor a b, gmul3_xor a b, gmul9_xor a b, gmul11_xor a b, gmul13_xor a b, gmul14_xor a b⟩

/-! ### The nonzero bytes as the powers of 3 (42_sbox.md R152) -/

/-- 3 to the power `k` in the field. -/
def powThree (k : Nat) : Byte := gmul3^[k] 0x01

theorem powThree_add (j k : Nat) : powThree (j + k) = gmul3^[j] (powThree k) :=
  Function.iterate_add_apply gmul3 j k 0x01

/-- Each factor 3 moves out of the product. -/
theorem fieldMul_powThree (j k : Nat) : fieldMul (powThree j) (powThree k) = powThree (j + k) := by
  rw [powThree_add]
  induction j with
  | zero => exact fieldMul_one_left (powThree k)
  | succ j ih =>
    have hout (a b : Byte) : fieldMul (gmul3 a) b = gmul3 (fieldMul a b) := by
      simp only [gmul3, fieldMul_xor_left, fieldMul_xtime_left]
    rw [powThree, Function.iterate_succ_apply', hout, Function.iterate_succ_apply']
    exact congrArg gmul3 ih

theorem powThree_period : powThree 255 = 0x01 := by decide +kernel

theorem powThree_period_mul (k : Nat) : powThree (255 * k) = 0x01 := by
  induction k with
  | zero => rfl
  | succ k ih => rw [Nat.mul_succ, powThree_add, powThree_period]; exact ih

/-- 3 is a generator: its period divides 255 and none of 255/3, 255/5 and 255/17. -/
theorem minimalPeriod_gmul3 : Function.minimalPeriod gmul3 0x01 = 255 := by
  have hdvd : Function.minimalPeriod gmul3 0x01 ∣ 255 :=
    Function.isPeriodicPt_iff_minimalPeriod_dvd.mp powThree_period
  have hnot {n : Nat} (h : powThree n ≠ 0x01) : ¬Function.minimalPeriod gmul3 0x01 ∣ n :=
    mt Function.isPeriodicPt_iff_minimalPeriod_dvd.mpr h
  have hproper : ∀ d ∈ Nat.divisors 255, ¬d ∣ 85 → ¬d ∣ 51 → ¬d ∣ 15 → d = 255 := by decide
  exact hproper _ (Nat.mem_divisors.mpr ⟨hdvd, by decide⟩) (hnot (by decide +kernel))
    (hnot (by decide +kernel)) (hnot (by decide +kernel))

/-- From 0 no multiplication by 3 leads to 1. -/
theorem powThree_ne_zero {k : Nat} (hk : k < 255) : powThree k ≠ 0 := by
  intro h
  have hone : powThree (255 - k + k) = 0x01 := by rw [Nat.sub_add_cancel hk.le, powThree_period]
  rw [powThree_add, h, Function.iterate_fixed (by decide)] at hone
  exact absurd hone (by decide)

/-- The 255 powers of 3 are distinct, so they are all the nonzero bytes. -/
theorem exists_eq_powThree {x : Byte} (hx : x ≠ 0) : ∃ k < 255, powThree k = x := by
  have hcard : ((Finset.range 255).image powThree).card = 255 := by
    rw [Finset.card_image_of_injOn, Finset.card_range]
    intro j hj k hk h
    exact Function.iterate_injOn_Iio_minimalPeriod (minimalPeriod_gmul3 ▸ by simpa using hj)
      (minimalPeriod_gmul3 ▸ by simpa using hk) h
  have hall : (Finset.range 255).image powThree = Finset.univ.erase 0 := by
    refine Finset.eq_of_subset_of_card_le (fun y hy => ?_) ?_
    · obtain ⟨k, hk, rfl⟩ := Finset.mem_image.mp hy
      exact Finset.mem_erase.mpr ⟨powThree_ne_zero (Finset.mem_range.mp hk), Finset.mem_univ _⟩
    · rw [hcard, Finset.card_erase_of_mem (Finset.mem_univ _)]
      decide +kernel
  have hmem : x ∈ (Finset.range 255).image powThree := hall ▸ by simpa using hx
  simpa using hmem

/-! ### The construction of the S-box (42_sbox.md R152) -/

theorem fieldPow_powThree (n k : Nat) : fieldPow n (powThree k) = powThree ((2 ^ (n + 1) - 2) * k) := by
  induction n with
  | zero => simp [fieldPow, powThree]
  | succ n ih =>
    have hexp : (2 ^ (n + 1) - 2) * k + k + ((2 ^ (n + 1) - 2) * k + k) = (2 ^ (n + 2) - 2) * k := by
      have hpow : 2 ^ (n + 2) - 2 = (2 ^ (n + 1) - 2) + 1 + ((2 ^ (n + 1) - 2) + 1) := by
        have hdouble : 2 ^ (n + 2) = 2 ^ (n + 1) * 2 := Nat.pow_succ 2 (n + 1)
        have htwo : 2 ^ (n + 1) = 2 ^ n * 2 := Nat.pow_succ 2 n
        have hpos : 0 < 2 ^ n := Nat.two_pow_pos n
        omega
      rw [hpow]; ring
    rw [fieldPow, ih, fieldMul_powThree, fieldMul_powThree, hexp]

/-- The inverse of 3^k is 3^(255-k). -/
theorem fieldInv_powThree {k : Nat} (hk : k ≤ 255) : fieldInv (powThree k) = powThree (255 - k) := by
  obtain rfl | hpos := Nat.eq_zero_or_pos k
  · rw [fieldInv, fieldPow_powThree, powThree_period]; rfl
  · have hexp : 254 * k = 255 - k + 255 * (k - 1) := by omega
    rw [fieldInv, fieldPow_powThree]
    change powThree (254 * k) = _
    rw [hexp, powThree_add, powThree_period_mul]
    rfl

/-- R152 along the powers of 3, whose inverses are the same powers in reverse. -/
theorem map_sbox_powers : (List.iterate gmul3 0x01 256).map sbox =
    (List.iterate gmul3 0x01 256).reverse.map affine := by
  decide +kernel

theorem sbox_powThree {k : Nat} (hk : k < 256) : sbox (powThree k) = affine (powThree (255 - k)) := by
  have hget := congrArg (·[k]?) map_sbox_powers
  have hrev : 256 - 1 - k = 255 - k := rfl
  rw [List.getElem?_map, List.getElem?_map, List.getElem?_reverse (by rwa [List.length_iterate]),
    List.length_iterate, List.getElem?_iterate _ _ _ _ hk,
    List.getElem?_iterate _ _ _ _ (by omega)] at hget
  exact Option.some.inj hget

/-- Settles O13: 0 by itself, and a nonzero byte as a power of 3. -/
theorem sboxIsTheInverseThenAffine : Obligations.SboxIsTheInverseThenAffine := by
  have hzero : fieldInv 0x00 = 0x00 := by decide +kernel
  refine ⟨hzero, fun x hx => ?inverse, fun x => ?affine⟩
  case inverse =>
    obtain ⟨k, hk, rfl⟩ := exists_eq_powThree hx
    rw [fieldInv_powThree hk.le, fieldMul_powThree, Nat.add_sub_cancel' hk.le, powThree_period]
  case affine =>
    by_cases hx : x = 0
    · rw [hx, hzero]; decide
    · obtain ⟨k, hk, rfl⟩ := exists_eq_powThree hx
      rw [fieldInv_powThree hk.le, sbox_powThree (by omega)]

/-- Settles O14, read off the two printed tables (42_sbox.md R155). -/
theorem sboxTablesHaveNoFixedPoint : Obligations.SboxTablesHaveNoFixedPoint := by
  unfold Obligations.SboxTablesHaveNoFixedPoint
  decide

/-! ### The period of rcon (43_rcon.md R171) -/

/-- Settles O16: a sequence that repeats after 51 is given by its index modulo 51. -/
theorem rconRepeatsWithPeriod51 : Obligations.RconRepeatsWithPeriod51 := by
  have hperiodic : Function.Periodic rcon 51 := rcon_add_fiftyOne
  exact fun n => ⟨hperiodic n, (hperiodic.map_mod_nat n).symm⟩

end Sys2Proof

namespace Sys2Proof

/-! ### What the expansion reads (44_key_schedule.md R186, R187) -/

section
variable {key key' : Vector Word 8} {nk : Nat}

/-- The loop body reads the key word of its own index, and only below Nk. -/
theorem nextWord_congr (h : ∀ i < nk, key'[i]? = key[i]?) (i : Nat) (prev back : Word) :
    nextWord key' nk i prev back = nextWord key nk i prev back := by
  by_cases hi : i < nk
  · rw [nextWord_of_lt hi, nextWord_of_lt hi, h i hi]
  · simp only [nextWord, if_neg hi]

theorem expandRev_congr (h : ∀ i < nk, key'[i]? = key[i]?) (n : Nat) :
    expandRev key' nk n = expandRev key nk n := by
  induction n with
  | zero => rfl
  | succ n ih => rw [expandRev, expandRev, ih, nextWord_congr h]

end

/-- Two keys with the same first Nk words have the same schedule. -/
theorem schedule_congr {key key' : Vector Word 8} {v : Variant}
    (h : ∀ j : Fin 8, j.val < v.nk → key'[j] = key[j]) : schedule key' v = schedule key v := by
  have hwords : ∀ i < v.nk, key'[i]? = key[i]? := by
    intro i hi
    have hlt : i < 8 := hi.trans_le (by cases v <;> decide)
    rw [Vector.getElem?_eq_getElem hlt, Vector.getElem?_eq_getElem hlt]
    exact congrArg some (h ⟨i, hlt⟩ hi)
  rw [schedule, schedule, expand, expand, expandRev_congr hwords]

/-- Settles O20: EXPAND loads the schedule, which is the same for both keys. -/
theorem expansionReadsOnlyItsKeyWords : Obligations.ExpansionReadsOnlyItsKeyWords := by
  intro s s' v hv hlen hkey
  have hv' : selectVariant s'.keyLen = some v := hlen ▸ hv
  exact ⟨_, _, Machine.exec_expand_of_some hv, Machine.exec_expand_of_some hv', schedule_congr hkey⟩

end Sys2Proof

namespace Sys2Proof

/-! ### The inverse laws of the transforms (45_state_transforms.md R217) -/

@[simp] theorem invSubBytes_subBytes (b : Block) : invSubBytes (subBytes b) = b :=
  Block.eq_of_entry fun r c => by simp

@[simp] theorem subBytes_invSubBytes (b : Block) : subBytes (invSubBytes b) = b :=
  Block.eq_of_entry fun r c => by simp

@[simp] theorem invShiftRows_shiftRows (b : Block) : invShiftRows (shiftRows b) = b :=
  Block.eq_of_entry fun r c => by simp

@[simp] theorem shiftRows_invShiftRows (b : Block) : shiftRows (invShiftRows b) = b :=
  Block.eq_of_entry fun r c => by simp

/-- MixColumns on one column. -/
def mixVector (c : Fin 4 → Byte) : Fin 4 → Byte := mixColumn (c 0) (c 1) (c 2) (c 3)

/-- InvMixColumns on one column. -/
def invMixVector (c : Fin 4 → Byte) : Fin 4 → Byte := invMixColumn (c 0) (c 1) (c 2) (c 3)

/-- A column turned by one place. -/
def turn (c : Fin 4 → Byte) : Fin 4 → Byte := fun r => c (r + 1)

/-- The equations of R215 are cyclic. -/
theorem mixVector_turn (c : Fin 4 → Byte) : mixVector (turn c) = turn (mixVector c) := by
  funext r
  fin_cases r <;> simp only [mixVector, turn, mixColumn, Fin.reduceAdd, Fin.reduceFinMk] <;> ac_rfl

/-- The equations of R216 are cyclic. -/
theorem invMixVector_turn (c : Fin 4 → Byte) : invMixVector (turn c) = turn (invMixVector c) := by
  funext r
  fin_cases r <;> simp only [invMixVector, turn, invMixColumn, Fin.reduceAdd, Fin.reduceFinMk] <;> ac_rfl

/-- The coefficients of the first row of the product of the two matrices: as polynomials in xtime they are
1, 0, 0 and 0. -/
theorem invMix_mix_coefficients (c : Byte) :
    gmul14 (gmul2 c) ^^^ gmul11 c ^^^ gmul13 c ^^^ gmul9 (gmul3 c) = c ∧
    gmul14 (gmul3 c) ^^^ gmul11 (gmul2 c) ^^^ gmul13 c ^^^ gmul9 c = 0#8 ∧
    gmul14 c ^^^ gmul11 (gmul3 c) ^^^ gmul13 (gmul2 c) ^^^ gmul9 c = 0#8 ∧
    gmul14 c ^^^ gmul11 c ^^^ gmul13 (gmul3 c) ^^^ gmul9 (gmul2 c) = 0#8 := by
  simp only [gmul2, gmul3, gmul9, gmul11, gmul13, gmul14, Reference.xtime_xor]
  generalize xtime (xtime (xtime (xtime c))) = c4
  generalize xtime (xtime (xtime c)) = c3
  generalize xtime (xtime c) = c2
  generalize xtime c = c1
  refine ⟨?_, ?_, ?_, ?_⟩ <;> ext i hi <;> simp only [BitVec.getElem_xor] <;> grind

/-- The first byte of a column comes back: by linearity it is the sum over the column of the coefficients
applied to its bytes. -/
theorem invMixVector_mixVector_zero (c : Fin 4 → Byte) : invMixVector (mixVector c) 0 = c 0 := by
  obtain ⟨h0, -, -, -⟩ := invMix_mix_coefficients (c 0)
  obtain ⟨-, h1, -, -⟩ := invMix_mix_coefficients (c 1)
  obtain ⟨-, -, h2, -⟩ := invMix_mix_coefficients (c 2)
  obtain ⟨-, -, -, h3⟩ := invMix_mix_coefficients (c 3)
  calc invMixVector (mixVector c) 0
    _ = (gmul14 (gmul2 (c 0)) ^^^ gmul11 (c 0) ^^^ gmul13 (c 0) ^^^ gmul9 (gmul3 (c 0))) ^^^
        (gmul14 (gmul3 (c 1)) ^^^ gmul11 (gmul2 (c 1)) ^^^ gmul13 (c 1) ^^^ gmul9 (c 1)) ^^^
        (gmul14 (c 2) ^^^ gmul11 (gmul3 (c 2)) ^^^ gmul13 (gmul2 (c 2)) ^^^ gmul9 (c 2)) ^^^
        (gmul14 (c 3) ^^^ gmul11 (c 3) ^^^ gmul13 (gmul3 (c 3)) ^^^ gmul9 (gmul2 (c 3))) := by
      simp only [invMixVector, mixVector, invMixColumn, mixColumn, gmul14_xor, gmul11_xor, gmul13_xor,
        gmul9_xor]
      ac_rfl
    _ = c 0 := by rw [h0, h1, h2, h3, BitVec.xor_zero, BitVec.xor_zero, BitVec.xor_zero]

/-- Every byte comes back, being the first of the column turned. -/
theorem invMixVector_leftInverse_mixVector : Function.LeftInverse invMixVector mixVector := by
  intro c
  funext r
  induction r using Fin.induction generalizing c with
  | zero => exact invMixVector_mixVector_zero c
  | succ r ih =>
    calc invMixVector (mixVector c) r.succ
      _ = turn (invMixVector (mixVector c)) r.castSucc := by rw [turn, Fin.coeSucc_eq_succ]
      _ = invMixVector (mixVector (turn c)) r.castSucc := by rw [mixVector_turn, invMixVector_turn]
      _ = turn c r.castSucc := ih (turn c)
      _ = c r.succ := by rw [turn, Fin.coeSucc_eq_succ]

/-- Columns are finite in number, so an inverse on one side is an inverse on both. -/
theorem invMixVector_rightInverse_mixVector : Function.RightInverse invMixVector mixVector :=
  invMixVector_leftInverse_mixVector.rightInverse_of_surjective
    (Finite.injective_iff_surjective.mp invMixVector_leftInverse_mixVector.injective)

theorem entry_mixColumns_eq_mixVector (b : Block) (r c : Fin 4) :
    Block.entry (mixColumns b) r c = mixVector (fun j => Block.entry b j c) r :=
  entry_mixColumns b r c

theorem entry_invMixColumns_eq_invMixVector (b : Block) (r c : Fin 4) :
    Block.entry (invMixColumns b) r c = invMixVector (fun j => Block.entry b j c) r :=
  entry_invMixColumns b r c

@[simp] theorem invMixColumns_mixColumns (b : Block) : invMixColumns (mixColumns b) = b :=
  Block.eq_of_entry fun r c => by
    simp only [entry_invMixColumns_eq_invMixVector, entry_mixColumns_eq_mixVector]
    exact congrFun (invMixVector_leftInverse_mixVector _) r

@[simp] theorem mixColumns_invMixColumns (b : Block) : mixColumns (invMixColumns b) = b :=
  Block.eq_of_entry fun r c => by
    simp only [entry_invMixColumns_eq_invMixVector, entry_mixColumns_eq_mixVector]
    exact congrFun (invMixVector_rightInverse_mixVector _) r

namespace Machine

/-! ### Pairs of transform commands (45_state_transforms.md R217, R218) -/

theorem runCommands_cons {i : Instr} {s t : State} (h : exec i s = .next t) (l : List Instr) :
    runCommands (i :: l) s = runCommands l t := by
  rw [runCommands, h]

/-- A command that is a transform, followed by one that is the inverse transform. -/
theorem runCommands_transform_pair {i j : Instr} {f g : Block → Block} {s : State}
    (hi : exec i s = transform f s)
    (hj : exec j (succeed (s.setBlock (f s.block))) = transform g (succeed (s.setBlock (f s.block))))
    (hgf : g (f s.block) = s.block) : runCommands [i, j] s = .next { s with errCode := 0 } := by
  calc runCommands [i, j] s
    _ = runCommands [j] (succeed (s.setBlock (f s.block))) := runCommands_cons hi _
    _ = .next (succeed (s.setBlock (g (f s.block)))) := runCommands_cons hj _
    _ = .next { s with errCode := 0 } := by rw [hgf]; rfl

/-- Settles O27: each pair of commands is a pair of transforms that are inverse to each other; for ADDRK
the check of the second passes as that of the first did. -/
theorem transformCommandsUndoEachOther : Obligations.TransformCommandsUndoEachOther := by
  intro s
  refine ⟨runCommands_transform_pair rfl rfl (invSubBytes_subBytes _),
    runCommands_transform_pair rfl rfl (subBytes_invSubBytes _),
    runCommands_transform_pair rfl rfl (invShiftRows_shiftRows _),
    runCommands_transform_pair rfl rfl (shiftRows_invShiftRows _),
    runCommands_transform_pair rfl rfl (invMixColumns_mixColumns _),
    runCommands_transform_pair rfl rfl (mixColumns_invMixColumns _), fun r hsv hr => ?_⟩
  exact runCommands_transform_pair (execAddrk_of_le_nr hsv hr) (execAddrk_of_le_nr hsv hr)
    (addRoundKey_addRoundKey s.w r s.block)

/-! ### What ADDRK reads (70_reset_and_hazards.md R299) -/

theorem storeWord_set_of_ne (w : Store) {i : Fin 60} {j : Nat} (v : Word) (h : i.val ≠ j) :
    storeWord (w.set i v) j = storeWord w j := by
  by_cases hj : j < 60
  · rw [storeWord_of_lt _ hj, storeWord_of_lt _ hj, Vector.getElem_set_ne _ _ h]
  · simp [storeWord, hj]

/-- AddRoundKey reads the four words of its round key. -/
theorem addRoundKey_congr {w w' : Store} {r : Nat} (b : Block)
    (h : ∀ c : Fin 4, storeWord w' (4 * r + c.val) = storeWord w (4 * r + c.val)) :
    addRoundKey w' r b = addRoundKey w r b :=
  Block.eq_of_entry fun j c => by rw [entry_addRoundKey, entry_addRoundKey, h]

/-- Settles O23: both checks pass, both transforms use the same words, and the words of the store are
independent. -/
theorem addrkReadsOnlyItsRoundKey : Obligations.AddrkReadsOnlyItsRoundKey := by
  refine ⟨fun s s' r hsv hr hsv' hnr hblock hwords => ?reads, fun w i j v => storeWord_set_of_ne w v⟩
  case reads =>
    refine ⟨_, _, execAddrk_of_le_nr hsv hr, execAddrk_of_le_nr (hsv'.trans hsv) (hnr ▸ hr), ?_⟩
    calc addRoundKey s'.w r s'.block
      _ = addRoundKey s'.w r s.block := by rw [hblock]
      _ = addRoundKey s.w r s.block := addRoundKey_congr s.block hwords

end Machine

end Sys2Proof

namespace Sys2Proof.Machine

/-! ### What a command writes (30_encoding.md R104, 10_state.md R40) -/

/-- The frame of the command `i` from `s` to `t`: no input register and no field of the model's own, and
RESULT, the state matrix and the schedule by their commands alone. -/
def CommandFrame (i : Instr) (s t : State) : Prop :=
  t.key = s.key ∧ t.keyLen = s.keyLen ∧ t.blkLen = s.blkLen ∧ t.opw = s.opw ∧ t.rkSel = s.rkSel ∧
  t.pending = s.pending ∧ t.response = s.response ∧ t.freeCount = s.freeCount ∧
  (isScalar i = false → t.result = s.result) ∧
  (isByteCommand i = true → t.result.extractLsb' 8 24 = 0#24) ∧
  (writesBlock i = false → t.block = s.block) ∧
  (buildsSchedule i = false → t.w = s.w ∧ t.sv = s.sv ∧ t.variant = s.variant ∧ t.nk = s.nk ∧
    t.nr = s.nr)

section
variable {i : Instr} (s : State)

theorem commandFrame_raise (hbyte : isByteCommand i = false) (e : CmdError) :
    CommandFrame i s (s.setErrCode e.code) :=
  ⟨rfl, rfl, rfl, rfl, rfl, rfl, rfl, rfl, fun _ => rfl, by simp [hbyte], fun _ => rfl,
    fun _ => ⟨rfl, rfl, rfl, rfl, rfl⟩⟩

theorem commandFrame_scalar (hscalar : isScalar i = true) {v : Word}
    (hbyte : isByteCommand i = true → v.extractLsb' 8 24 = 0#24) :
    CommandFrame i s (succeed (s.setResult v)) :=
  ⟨rfl, rfl, rfl, rfl, rfl, rfl, rfl, rfl, by simp [hscalar], hbyte, fun _ => rfl,
    fun _ => ⟨rfl, rfl, rfl, rfl, rfl⟩⟩

theorem commandFrame_transform (hblock : writesBlock i = true) (hbyte : isByteCommand i = false)
    (b : Block) : CommandFrame i s (succeed (s.setBlock b)) :=
  ⟨rfl, rfl, rfl, rfl, rfl, rfl, rfl, rfl, fun _ => rfl, by simp [hbyte], by simp [hblock],
    fun _ => ⟨rfl, rfl, rfl, rfl, rfl⟩⟩

theorem commandFrame_setSchedule (hbuilds : buildsSchedule i = true) (hbyte : isByteCommand i = false)
    (v : Variant) (w : Store) : CommandFrame i s (succeed (s.setSchedule v w)) :=
  ⟨rfl, rfl, rfl, rfl, rfl, rfl, rfl, rfl, fun _ => rfl, by simp [hbyte], fun _ => rfl,
    by simp [hbuilds]⟩

theorem commandFrame_cipher (hbuilds : buildsSchedule i = true) (hblock : writesBlock i = true)
    (hbyte : isByteCommand i = false) (v : Variant) (w : Store) (b : Block) :
    CommandFrame i s (succeed ((s.setSchedule v w).setBlock b)) :=
  ⟨rfl, rfl, rfl, rfl, rfl, rfl, rfl, rfl, fun _ => rfl, by simp [hbyte], by simp [hblock],
    by simp [hbuilds]⟩

end

/-- A byte result has zero in bits 31:8 (10_state.md R40). -/
theorem extractLsb'_zextByte (b : Byte) : (zextByte b).extractLsb' 8 24 = 0#24 := by
  rw [extractLsb'_eq_iff, zextByte, BitVec.toNat_setWidth, BitVec.toNat_ofNat]
  omega

/-- The frame of a cipher command, whatever its pipeline. -/
theorem runCipher_frame {i : Instr} (pipeline : Store → Nat → Block → Block) (s : State)
    (hbuilds : buildsSchedule i = true) (hblock : writesBlock i = true)
    (hbyte : isByteCommand i = false) :
    ∃ t, runCipher pipeline s = .next t ∧ CommandFrame i s t := by
  obtain ⟨-, h⟩ | ⟨v, -, -, h⟩ | ⟨v, -, -, h⟩ := runCipher_cases pipeline s
  · exact ⟨_, h, commandFrame_raise s hbyte _⟩
  · exact ⟨_, h, commandFrame_raise s hbyte _⟩
  · exact ⟨_, h, commandFrame_cipher s hbuilds hblock hbyte v _ _⟩

theorem execAddrk_frame (r : Nat) (s : State) :
    ∃ t, execAddrk r s = .next t ∧ CommandFrame (.addrk r) s t := by
  obtain ⟨-, h⟩ | ⟨-, -, h⟩ | ⟨-, -, h⟩ := execAddrk_cases r s
  · exact ⟨_, h, commandFrame_raise s rfl _⟩
  · exact ⟨_, h, commandFrame_raise s rfl _⟩
  · exact ⟨_, h, commandFrame_transform s rfl rfl _⟩

/-- Settles O37: a command is a scalar command, a transform, a load of the schedule or a cipher, or it
raises an error, and each of these has the frame. -/
theorem commandsWriteOnlyTheirRegisters : Obligations.CommandsWriteOnlyTheirRegisters := by
  intro i s
  change ∃ t, exec i s = .next t ∧ CommandFrame i s t
  cases i with
  | xtime _ | gmul3 _ | gmul9 _ | gmul11 _ | gmul13 _ | gmul14 _ | sbox _ | isbox _ | rcon _ =>
    exact ⟨_, rfl, commandFrame_scalar s rfl fun _ => extractLsb'_zextByte _⟩
  | rotword | subword => exact ⟨_, rfl, commandFrame_scalar s rfl nofun⟩
  | expand =>
    cases h : selectVariant s.keyLen with
    | none => exact ⟨_, execExpand_of_none h, commandFrame_raise s rfl _⟩
    | some v => exact ⟨_, execExpand_of_some h, commandFrame_setSchedule s rfl rfl v _⟩
  | encrypt => exact runCipher_frame cipher s rfl rfl rfl
  | decrypt => exact runCipher_frame invCipher s rfl rfl rfl
  | addrk r => exact execAddrk_frame r s
  | _ => exact ⟨_, rfl, commandFrame_transform s rfl rfl _⟩

/-- EXPAND leaves the matrix there was, which is to write it. -/
theorem succeed_setSchedule_eq_setBlock (v : Variant) (w : Store) (s : State) :
    succeed (s.setSchedule v w) = succeed ((s.setSchedule v w).setBlock s.block) := rfl

/-- Everything the commands that build a schedule can do: raise an error, or load the schedule of the
current key and write a matrix. -/
theorem exec_cases_of_buildsSchedule {i : Instr} (hi : buildsSchedule i = true) (s : State) :
    (∃ e, exec i s = raiseCmdError e s) ∨
    ∃ v b, selectVariant s.keyLen = some v ∧
      exec i s = .next (succeed ((s.setSchedule v (schedule s.key v)).setBlock b)) := by
  have hcipher (pipeline) : (∃ e, runCipher pipeline s = raiseCmdError e s) ∨
      ∃ v b, selectVariant s.keyLen = some v ∧
        runCipher pipeline s = .next (succeed ((s.setSchedule v (schedule s.key v)).setBlock b)) := by
    obtain ⟨-, h⟩ | ⟨v, -, -, h⟩ | ⟨v, hv, -, h⟩ := runCipher_cases pipeline s
    exacts [.inl ⟨_, h⟩, .inl ⟨_, h⟩, .inr ⟨v, _, hv, h⟩]
  cases i with
  | expand =>
    cases h : selectVariant s.keyLen with
    | none => exact .inl ⟨_, execExpand_of_none h⟩
    | some v =>
      have hexec : exec .expand s = .next (succeed (s.setSchedule v (schedule s.key v))) :=
        execExpand_of_some h
      exact .inr ⟨v, s.block, rfl, hexec.trans (by rw [← succeed_setSchedule_eq_setBlock])⟩
  | encrypt => exact hcipher cipher
  | decrypt => exact hcipher invCipher
  | _ => cases hi

/-! ### The invariant (10_state.md R45, R46) -/

/-- The two states have the same schedule, schedule fields, and key registers. -/
def SameSchedule (s t : State) : Prop :=
  t.key = s.key ∧ t.keyLen = s.keyLen ∧ t.w = s.w ∧ t.sv = s.sv ∧ t.variant = s.variant ∧
  t.nk = s.nk ∧ t.nr = s.nr

/-- The invariant reads nothing but these fields and ERRCODE. -/
theorem State.Inv.of_sameSchedule {s t : State} (h : s.Inv) (hst : SameSchedule s t)
    (hcode : t.errCode.toNat ≤ 5) : t.Inv := by
  obtain ⟨hkey, hlen, hw, hsv, hvar, hnk, hnr⟩ := hst
  refine ⟨?row, ?current, hcode⟩
  case row =>
    rw [ScheduleRow, hsv, hvar, hnk, hnr]
    exact h.row
  case current =>
    rw [ScheduleCurrent, hkey, hlen, hw, hsv, hvar, hnk, hnr]
    exact h.current

/-- A row of R45 is that of its variant. -/
theorem scheduleRow_of_variant {s : State} {v : Variant} (hsv : s.sv = true) (hvar : s.variant = v.code)
    (hnk : s.nk = BitVec.ofNat 4 v.nk) (hnr : s.nr = BitVec.ofNat 4 v.nr) : ScheduleRow s := by
  rw [ScheduleRow, hsv, hvar, hnk, hnr]
  cases v <;> decide

/-- A schedule just loaded is current, whatever matrix is written with it. -/
theorem inv_setSchedule {s : State} {v : Variant} {w : Store} (hv : selectVariant s.keyLen = some v)
    (hw : w = schedule s.key v) (b : Block) : (succeed ((s.setSchedule v w).setBlock b)).Inv :=
  { row := scheduleRow_of_variant (v := v) rfl rfl rfl rfl
    current := fun _ => ⟨v, hv, rfl, by cases v <;> rfl, by cases v <;> rfl, hw⟩
    code := Nat.zero_le 5 }

/-- Without a schedule there is nothing to be current (20_memory.md R79). -/
theorem inv_invalidate {s : State} (hcode : s.errCode.toNat ≤ 5) : s.invalidate.Inv :=
  { row := .inl ⟨rfl, rfl, rfl, rfl⟩, current := nofun, code := hcode }

/-- Settles O39: the reset state has the row without a schedule, and ERRCODE 0. -/
theorem resetMeetsTheInvariant : Obligations.ResetMeetsTheInvariant :=
  { row := .inl ⟨rfl, rfl, rfl, rfl⟩, current := nofun, code := Nat.zero_le 5 }

theorem code_le_five (e : CmdError) : e.code.toNat ≤ 5 := by cases e <;> decide

theorem inv_raise {s : State} (h : s.Inv) (e : CmdError) : (s.setErrCode e.code).Inv :=
  h.of_sameSchedule ⟨rfl, rfl, rfl, rfl, rfl, rfl, rfl⟩ (code_le_five e)

/-- Every command keeps the invariant: it raises an error, loads the current schedule, or leaves the schedule
as its frame says and ERRCODE 0. -/
theorem exec_inv {s : State} (h : s.Inv) (i : Instr) : ∃ t, exec i s = .next t ∧ t.Inv := by
  cases hi : buildsSchedule i with
  | true =>
    obtain ⟨e, he⟩ | ⟨v, b, hv, he⟩ := exec_cases_of_buildsSchedule hi s
    · exact ⟨_, he, inv_raise h e⟩
    · exact ⟨_, he, inv_setSchedule hv rfl b⟩
  | false =>
    obtain ⟨e, he⟩ | ⟨u, hu⟩ := exec_raisesOrSucceeds i s
    · exact ⟨_, he, inv_raise h e⟩
    · obtain ⟨t, ht, hkey, hlen, -, -, -, -, -, -, -, -, -, hsched⟩ := commandsWriteOnlyTheirRegisters i s
      obtain rfl : succeed u = t := by simpa [hu] using ht
      exact ⟨_, hu, h.of_sameSchedule ⟨hkey, hlen, hsched hi⟩ (Nat.zero_le 5)⟩

theorem execute_inv {s : State} (h : s.Inv) (v : Word) : ∃ t, execute v s = .next t ∧ t.Inv := by
  cases hd : decode v with
  | command i => exact execute_of_command hd s ▸ exec_inv h i
  | illegal why => exact ⟨_, execute_of_illegal hd s, inv_raise h .illegalCommand⟩

/-- A write to KEY or KEYLEN invalidates the schedule, and any other but a command leaves it. -/
theorem writeReg_inv {s t : State} (h : s.Inv) {r : Reg} {v : Word} (hw : writeReg r v s = some (.next t)) :
    t.Inv := by
  cases r with
  | cmd =>
    obtain ⟨u, hu, hinv⟩ := execute_inv h v
    obtain rfl : u = t := by simpa [writeReg, hu] using hw
    exact hinv
  | keyLen | key _ => cases hw; exact inv_invalidate h.code
  | blkLen | state _ | opw | rkSel =>
    cases hw; exact h.of_sameSchedule ⟨rfl, rfl, rfl, rfl, rfl, rfl, rfl⟩ h.code
  | status | result | rkOut _ => cases hw

/-! ### What the host's events do (20_memory.md R71, 70_reset_and_hazards.md R290) -/

/-- Everything a transfer can do: only answer, or write a register and answer OKAY. -/
theorem serve_cases (tr : Transfer) (s : State) :
    (∃ r, serve tr s = .next (s.respond (some r))) ∨
    ∃ r v t, tr = .write (regOffset r) .word v ∧ writeReg r v s = some (.next t) ∧
      serve tr s = .next (t.respond (some .okay)) := by
  cases tr with
  | read off size => exact .inl (serve_read_eq_respond off size s)
  | write off size v =>
    cases hc : checkAccess off size with
    | none => exact .inl ⟨_, serve_write_of_checkAccess_eq_none v s hc⟩
    | some r =>
      obtain ⟨rfl, rfl⟩ := of_checkAccess_eq_some hc
      obtain ⟨-, hw⟩ | ⟨-, t, hw⟩ := writeReg_cases r v s
      · exact .inl ⟨.error, by simp [serve_write_regOffset, hw]⟩
      · exact .inr ⟨r, v, t, rfl, hw, by simp [serve_write_regOffset, hw]⟩

theorem inv_respond {s : State} (h : s.Inv) (r : Option Response) : (s.respond r).Inv :=
  h.of_sameSchedule ⟨rfl, rfl, rfl, rfl, rfl, rfl, rfl⟩ h.code

theorem serve_inv {s : State} (h : s.Inv) (tr : Transfer) : ∃ t, serve tr s = .next t ∧ t.Inv := by
  obtain ⟨r, hs⟩ | ⟨r, v, t, -, hw, hs⟩ := serve_cases tr s
  · exact ⟨_, hs, inv_respond h _⟩
  · exact ⟨_, hs, inv_respond (writeReg_inv h hw) _⟩

theorem serveEvent_inv {s : State} (h : s.Inv) (e : HostEvent) :
    ∃ t, serveEvent e s = .next t ∧ t.Inv := by
  cases e with
  | bus tr => exact serve_inv h tr
  | reset | resetDuring _ =>
    exact ⟨_, rfl, resetMeetsTheInvariant.of_sameSchedule ⟨rfl, rfl, rfl, rfl, rfl, rfl, rfl⟩
      (Nat.zero_le 5)⟩

/-- A step with no event pending is idle (60_exceptions.md R278). -/
theorem step_of_nil {s : State} (h : s.pending = []) : step s = .next s := by
  simp [step, serveNext, h]

/-- Settles O40: an idle step changes nothing, and every event, served with the rest of the list pending,
keeps the invariant. -/
theorem stepKeepsTheInvariant : Obligations.StepKeepsTheInvariant := by
  intro s h
  cases hp : s.pending with
  | nil => exact ⟨s, step_of_nil hp, h⟩
  | cons e rest =>
    rw [step_of_cons hp]
    have hrest : (s.setPending rest).Inv :=
      h.of_sameSchedule ⟨rfl, rfl, rfl, rfl, rfl, rfl, rfl⟩ h.code
    exact serveEvent_inv hrest e

/-- Settles O33: SV = 1 makes the schedule that of the current key, so loading it again changes nothing. -/
theorem expandingAgainKeepsAValidSchedule : Obligations.ExpandingAgainKeepsAValidSchedule := by
  intro s i h hsv hi
  obtain ⟨e, he⟩ | ⟨v, b, hv, he⟩ := exec_cases_of_buildsSchedule hi s
  · exact ⟨_, he, rfl, rfl, rfl, rfl, rfl⟩
  · obtain ⟨v', hv', hvar, hnk, hnr, hw⟩ := h.current hsv
    obtain rfl : v = v' := Option.some.inj (hv.symm.trans hv')
    have hnk' : BitVec.ofNat 4 v.nk = s.nk := by simp [← hnk]
    have hnr' : BitVec.ofNat 4 v.nr = s.nr := by simp [← hnr]
    rw [succeed_setBlock_setSchedule, ← hw] at he
    exact ⟨_, he, rfl, hsv.symm, hvar.symm, hnk', hnr'⟩

/-! ### The step (70_reset_and_hazards.md R290, R301; 60_exceptions.md R278) -/

theorem serveEvent_safe (e : HostEvent) (s : State) : Safe (serveEvent e s) := by
  cases e with
  | bus tr =>
    obtain ⟨r, hs⟩ | ⟨r, v, t, -, -, hs⟩ := serve_cases tr s
    exacts [⟨_, hs⟩, ⟨_, hs⟩]
  | reset | resetDuring _ => exact ⟨_, rfl⟩

/-- Settles O38: an idle step answers the state itself, and every event is served with a next state. -/
theorem everyStepAnswersANextState : Obligations.EveryStepAnswersANextState := by
  intro s
  cases hp : s.pending with
  | nil => exact ⟨s, step_of_nil hp⟩
  | cons e rest => exact step_of_cons hp ▸ serveEvent_safe e _

/-- Settles O3: the idle step. -/
theorem idleStepHoldsAllState : Obligations.IdleStepHoldsAllState := fun _ => step_of_nil

/-- Settles O2: both kinds of reset put every register at its reset value and keep the rest of the list. -/
theorem resetEventsRestoreTheResetValues : Obligations.ResetEventsRestoreTheResetValues := by
  refine fun s rest => ⟨fun hp => step_of_cons hp, fun tr hp => ⟨_, step_of_cons hp, ?_, rfl⟩⟩
  exact ⟨rfl, rfl, rfl, rfl, rfl, rfl, rfl, rfl, rfl, rfl, rfl, rfl, rfl⟩

/-- Settles O4: the event is the transfer of the command word, whose service is `execute`. -/
theorem stepRunsTheDecodedCommand : Obligations.StepRunsTheDecodedCommand := by
  refine ⟨fun s v i rest hp hd => ?step, fun s v => ?fetch⟩
  case step =>
    calc step s
      _ = serve (commandTransfer v) (s.setPending rest) := step_of_cons hp
      _ = onNext (execute v (s.setPending rest)) (State.respond (some .okay)) := serve_commandTransfer v _
      _ = onNext (exec i (s.setPending rest)) (State.respond (some .okay)) := by
        rw [execute_of_command hd]
  case fetch =>
    have hv : BitVec.ofNat 32 (v.toNat % 2 ^ 32) = v := by
      rw [Nat.mod_eq_of_lt v.isLt, BitVec.ofNat_toNat, BitVec.setWidth_eq]
    rw [State.withFetchWord, issueCommand, hv]
    rfl

end Sys2Proof.Machine

namespace Sys2Proof

/-! ### The round trip of the pipelines (46_cipher.md R247) -/

theorem inverseSteps_cipherRound (w : Store) (r : Nat) (b : Block) :
    invSubBytes (invShiftRows (invMixColumns (addRoundKey w r (cipherRound w b r)))) = b := by
  simp [cipherRound]

/-- Undoing the last row shift and substitution of the inverse rounds run on a cipher leaves the forward
rounds that are still to be undone. -/
theorem inverseRounds_cipher (w : Store) (b : Block) {nr k : Nat} (hk : k ≤ nr - 1) :
    invSubBytes (invShiftRows (inverseRounds w nr (cipher w nr b) k)) = forwardRounds w b (nr - 1 - k) := by
  induction k with
  | zero => simp [inverseRounds, cipher_eq_forwardRounds]
  | succ k ih =>
    have hround : nr - 1 - k = nr - 1 - (k + 1) + 1 := by omega
    have hkey : nr - (k + 1) = nr - 1 - (k + 1) + 1 := by omega
    rw [inverseRounds, invCipherRound, ih (by omega), hkey, hround, forwardRounds]
    exact inverseSteps_cipherRound w _ _

theorem invCipher_cipher (w : Store) (nr : Nat) (b : Block) : invCipher w nr (cipher w nr b) = b := by
  rw [invCipher_eq_inverseRounds, inverseRounds_cipher w b le_rfl, Nat.sub_self, forwardRounds,
    addRoundKey_addRoundKey]

theorem forwardSteps_invCipherRound (w : Store) (r : Nat) (b : Block) :
    addRoundKey w r (mixColumns (invCipherRound w b r)) = invSubBytes (invShiftRows b) := by
  simp [invCipherRound]

/-- The same the other way round: the forward rounds run on an inverse cipher. -/
theorem forwardRounds_invCipher (w : Store) (b : Block) {nr k : Nat} (hk : k ≤ nr - 1) :
    shiftRows (subBytes (forwardRounds w (invCipher w nr b) k)) = inverseRounds w nr b (nr - 1 - k) := by
  induction k with
  | zero => simp [forwardRounds, invCipher_eq_inverseRounds]
  | succ k ih =>
    have hround : nr - 1 - k = nr - 1 - (k + 1) + 1 := by omega
    have hkey : nr - (nr - 1 - (k + 1) + 1) = k + 1 := by omega
    rw [forwardRounds, cipherRound, ih (by omega), hround, inverseRounds, hkey,
      forwardSteps_invCipherRound, subBytes_invSubBytes, shiftRows_invShiftRows]

theorem cipher_invCipher (w : Store) (nr : Nat) (b : Block) : cipher w nr (invCipher w nr b) = b := by
  rw [cipher_eq_forwardRounds, forwardRounds_invCipher w b le_rfl, Nat.sub_self, inverseRounds,
    addRoundKey_addRoundKey]

namespace Machine

/-- `s` with the schedule `w` of the variant `v` loaded, ERRCODE 0, and `b` in the state matrix: what
EXPAND, and the commands after it, leave. -/
def withSchedule (v : Variant) (w : Store) (s : State) (b : Block) : State :=
  succeed ((s.setSchedule v w).setBlock b)

section
variable (v : Variant) (w : Store) (s : State) (b : Block)

@[simp] theorem withSchedule_key : (withSchedule v w s b).key = s.key := rfl
@[simp] theorem withSchedule_block : (withSchedule v w s b).block = b := rfl
@[simp] theorem withSchedule_sv : (withSchedule v w s b).sv = true := rfl
@[simp] theorem withSchedule_errCode : (withSchedule v w s b).errCode = 0 := rfl

end

theorem runCipher_eq_withSchedule (pipeline : Store → Nat → Block → Block) {s : State} {v : Variant}
    (hv : selectVariant s.keyLen = some v) (hblk : s.blkLen = 16#8) :
    runCipher pipeline s =
      .next (withSchedule v (schedule s.key v) s (pipeline (schedule s.key v) v.nr s.block)) := by
  rw [runCipher_of_some pipeline hv hblk, withSchedule, succeed_setBlock_setSchedule]

/-- Two cipher commands, the second with the pipeline that inverts the first: both expand the same key. -/
theorem runCommands_cipher_pair {i j : Instr} {f g : Store → Nat → Block → Block} {s : State}
    (hi : ∀ s, exec i s = runCipher f s) (hj : ∀ s, exec j s = runCipher g s)
    (hgf : ∀ w nr b, g w nr (f w nr b) = b) (hlen : KeyLengthLegal s) (hblk : s.blkLen = 16#8) :
    ∃ t, runCommands [i, j] s = .next t ∧ t.block = s.block ∧ t.errCode = 0 := by
  obtain ⟨v, hv⟩ := exists_selectVariant_eq_some hlen
  obtain ⟨w, hw⟩ : ∃ w, schedule s.key v = w := ⟨_, rfl⟩
  have hfirst : exec i s = .next (withSchedule v w s (f w v.nr s.block)) :=
    hw ▸ (hi s).trans (runCipher_eq_withSchedule f hv hblk)
  have hsecond := runCipher_eq_withSchedule g (s := withSchedule v w s (f w v.nr s.block)) hv hblk
  rw [withSchedule_key, withSchedule_block, hw, hgf, ← hj] at hsecond
  refine ⟨_, (runCommands_cons hfirst _).trans (runCommands_cons hsecond _), ?_, ?_⟩
  · rw [withSchedule_block]
  · rw [withSchedule_errCode]

/-- Settles O30: the two pipelines are inverse to each other for every schedule. -/
theorem decryptUndoesEncrypt : Obligations.DecryptUndoesEncrypt := fun _ hlen hblk =>
  ⟨runCommands_cipher_pair (i := .encrypt) (j := .decrypt) (fun _ => rfl) (fun _ => rfl) invCipher_cipher
      hlen hblk,
    runCommands_cipher_pair (i := .decrypt) (j := .encrypt) (fun _ => rfl) (fun _ => rfl) cipher_invCipher
      hlen hblk⟩

/-! ### The round commands one by one (46_cipher.md R248) -/

theorem runCommands_append {l : List Instr} {s t : State} (h : runCommands l s = .next t)
    (m : List Instr) : runCommands (l ++ m) s = runCommands m t := by
  induction l generalizing s with
  | nil => cases h; rfl
  | cons i l ih =>
    cases hi : exec i s with
    | next u =>
      rw [runCommands_cons hi] at h
      rw [List.cons_append, runCommands_cons hi, ih h]
    | fault r => rw [runCommands, hi] at h; cases h
    | refused r => rw [runCommands, hi] at h; cases h

/-- A loop over rounds whose body runs a list of commands: where the body of each round does to the matrix
what `f` does, the loop does what the fold of `f` does. -/
theorem runCommands_flatMap {body : Nat → List Instr} {f : Block → Nat → Block} {S : Block → State}
    {l : List Nat} (h : ∀ r ∈ l, ∀ b, runCommands (body r) (S b) = .next (S (f b r))) (b : Block) :
    runCommands (l.flatMap body) (S b) = .next (S (l.foldl f b)) := by
  induction l generalizing b with
  | nil => rfl
  | cons r l ih =>
    obtain ⟨hr, hl⟩ := List.forall_mem_cons.mp h
    rw [List.flatMap_cons, runCommands_append (hr b), List.foldl_cons, ih hl]

section
variable {v : Variant} {w : Store} {s : State}

/-- ADDRK finds SV = 1 and the rounds of the variant. -/
theorem exec_addrk_withSchedule {r : Nat} (hr : r ≤ v.nr) (b : Block) :
    exec (.addrk r) (withSchedule v w s b) = .next (withSchedule v w s (addRoundKey w r b)) := by
  have hnr : (BitVec.ofNat 4 v.nr).toNat = v.nr := by cases v <;> rfl
  exact execAddrk_of_le_nr (s := withSchedule v w s b) rfl (hr.trans_eq hnr.symm)

theorem exec_transform_withSchedule {i : Instr} {f : Block → Block} (hi : ∀ s, exec i s = transform f s)
    (b : Block) : exec i (withSchedule v w s b) = .next (withSchedule v w s (f b)) := hi _

theorem runCommands_cipherRound {r : Nat} (hr : r ≤ v.nr) (b : Block) :
    runCommands [.subbytes, .shiftrows, .mixcolumns, .addrk r] (withSchedule v w s b) =
      .next (withSchedule v w s (cipherRound w b r)) := by
  rw [runCommands_cons (exec_transform_withSchedule (fun _ => rfl) b),
    runCommands_cons (exec_transform_withSchedule (fun _ => rfl) _),
    runCommands_cons (exec_transform_withSchedule (fun _ => rfl) _),
    runCommands_cons (exec_addrk_withSchedule hr _)]
  rfl

theorem runCommands_invCipherRound {r : Nat} (hr : r ≤ v.nr) (b : Block) :
    runCommands [.invshiftrows, .invsubbytes, .addrk r, .invmixcolumns] (withSchedule v w s b) =
      .next (withSchedule v w s (invCipherRound w b r)) := by
  rw [runCommands_cons (exec_transform_withSchedule (fun _ => rfl) b),
    runCommands_cons (exec_transform_withSchedule (fun _ => rfl) _),
    runCommands_cons (exec_addrk_withSchedule hr _),
    runCommands_cons (exec_transform_withSchedule (fun _ => rfl) _)]
  rfl

/-- A round of the loops over `1 .. Nr-1` is one of the variant's. -/
theorem le_nr_of_mem_range' {r : Nat} (hr : r ∈ List.range' 1 (v.nr - 1)) : r ≤ v.nr := by
  have := List.mem_range'_1.mp hr
  omega

/-- The commands after EXPAND in the forward program run the cipher. -/
theorem runCommands_encryptProgram
    (hexpand : exec .expand s = .next (withSchedule v w s s.block)) :
    runCommands (encryptProgram v.nr) s = .next (withSchedule v w s (cipher w v.nr s.block)) := by
  have hstart : runCommands [.expand, .addrk 0] s = .next (withSchedule v w s (addRoundKey w 0 s.block)) :=
    (runCommands_cons hexpand _).trans (runCommands_cons (exec_addrk_withSchedule (Nat.zero_le _) _) _)
  have hrounds := runCommands_flatMap (S := withSchedule v w s) (l := List.range' 1 (v.nr - 1))
    (fun r hr => runCommands_cipherRound (le_nr_of_mem_range' hr)) (addRoundKey w 0 s.block)
  rw [encryptProgram, List.append_assoc, runCommands_append hstart, runCommands_append hrounds]
  rw [runCommands_cons (exec_transform_withSchedule (fun _ => rfl) _),
    runCommands_cons (exec_transform_withSchedule (fun _ => rfl) _),
    runCommands_cons (exec_addrk_withSchedule le_rfl _)]
  rfl

/-- The commands after EXPAND in the inverse program run the inverse cipher. -/
theorem runCommands_decryptProgram
    (hexpand : exec .expand s = .next (withSchedule v w s s.block)) :
    runCommands (decryptProgram v.nr) s = .next (withSchedule v w s (invCipher w v.nr s.block)) := by
  have hstart : runCommands [.expand, .addrk v.nr] s =
      .next (withSchedule v w s (addRoundKey w v.nr s.block)) :=
    (runCommands_cons hexpand _).trans (runCommands_cons (exec_addrk_withSchedule le_rfl _) _)
  have hrounds := runCommands_flatMap (S := withSchedule v w s) (l := (List.range' 1 (v.nr - 1)).reverse)
    (fun r hr => runCommands_invCipherRound (le_nr_of_mem_range' (List.mem_reverse.mp hr)))
    (addRoundKey w v.nr s.block)
  rw [decryptProgram, List.append_assoc, runCommands_append hstart, runCommands_append hrounds]
  rw [runCommands_cons (exec_transform_withSchedule (fun _ => rfl) _),
    runCommands_cons (exec_transform_withSchedule (fun _ => rfl) _),
    runCommands_cons (exec_addrk_withSchedule (Nat.zero_le _) _)]
  rfl

end

/-- Settles O31: both the program and the command load the schedule and run the pipeline on it. -/
theorem roundCommandsEqualTheCipherCommands : Obligations.RoundCommandsEqualTheCipherCommands := by
  intro s v hv hblk
  have hexpand : exec .expand s = .next (withSchedule v (schedule s.key v) s s.block) := by
    rw [withSchedule, ← succeed_setSchedule_eq_setBlock]
    exact execExpand_of_some hv
  exact ⟨(runCommands_encryptProgram hexpand).trans (runCipher_eq_withSchedule cipher hv hblk).symm,
    (runCommands_decryptProgram hexpand).trans (runCipher_eq_withSchedule invCipher hv hblk).symm⟩

/-! ### What the cipher commands read (46_cipher.md R246) -/

/-- The outcome of a cipher command by its pipeline: the matrix and ERRCODE are functions of KEYLEN,
BLKLEN, the key words in use and the matrix. -/
theorem runCipher_congr (pipeline : Store → Nat → Block → Block) {s s' : State}
    (hlen : s'.keyLen = s.keyLen) (hblk : s'.blkLen = s.blkLen) (hblock : s'.block = s.block)
    (hkey : ∀ v, selectVariant s.keyLen = some v → ∀ j : Fin 8, j.val < v.nk → s'.key[j] = s.key[j]) :
    ∃ t t', runCipher pipeline s = .next t ∧ runCipher pipeline s' = .next t' ∧ t'.block = t.block ∧
      t'.errCode = t.errCode := by
  obtain ⟨hv, h⟩ | ⟨v, hv, hb, h⟩ | ⟨v, hv, hb, h⟩ := runCipher_cases pipeline s
  · exact ⟨_, _, h, runCipher_of_none pipeline (hlen ▸ hv), hblock, rfl⟩
  · exact ⟨_, _, h, runCipher_of_blkLen_ne pipeline (hlen ▸ hv) (hblk ▸ hb), hblock, rfl⟩
  · have h' := runCipher_of_some pipeline (s := s') (v := v) (hlen ▸ hv) (hblk.trans hb)
    rw [schedule_congr (hkey v hv), hblock] at h'
    exact ⟨_, _, runCipher_of_some pipeline hv hb, h', rfl, rfl⟩

/-- Settles O32: both commands are cipher commands. -/
theorem cipherOutputDependsOnlyOnKeyAndBlock : Obligations.CipherOutputDependsOnlyOnKeyAndBlock := by
  rintro s s' i (rfl | rfl) hlen hblk hblock hkey
  · exact runCipher_congr cipher hlen hblk hblock hkey
  · exact runCipher_congr invCipher hlen hblk hblock hkey

end Machine

end Sys2Proof

namespace Sys2Proof.Machine

/-! ### Accesses repeated (20_memory.md R83) -/

/-- No register shows the port's answer. -/
theorem readReg_respond (r : Reg) (a : Option Response) (s : State) :
    readReg r (s.respond a) = readReg r s := by
  cases r <;> rfl

/-- What a read answers is a function of the registers, which it leaves. -/
theorem serve_read_respond (off : Offset) (size : AccessSize) (a : Option Response) (s : State) :
    serve (.read off size) (s.respond a) = serve (.read off size) s := by
  simp only [serve, memRead, readReg_respond]
  rfl

/-- Writing a column a second time puts the same bytes in the same places. -/
theorem setColumn_setColumn (b : Block) (c : Fin 4) (v : Word) :
    Block.setColumn (Block.setColumn b c v) c v = Block.setColumn b c v :=
  Block.eq_of_entry fun r c' => by
    simp only [entry_setColumn]
    split <;> rfl

/-- A write to a register other than CMD, made again after its answer, leaves what it left. -/
theorem writeReg_again {r : Reg} (hr : r ≠ .cmd) {v : Word} {s t : State} (a : Option Response)
    (h : writeReg r v s = some (.next t)) : writeReg r v (t.respond a) = some (.next (t.respond a)) := by
  cases r with
  | cmd => exact absurd rfl hr
  | status | result | rkOut _ => cases h
  | key j =>
    cases h
    simp [writeReg, State.setKey, State.invalidate, State.respond]
  | state c =>
    cases h
    simp [writeReg, State.setBlock, State.respond, setColumn_setColumn]
  | _ => cases h; rfl

/-- Settles O44: a read leaves the registers it reads, a refused write leaves all of them, and any other
write but to CMD leaves the same value again. -/
theorem accessesOtherThanCommandsAreIdempotent : Obligations.AccessesOtherThanCommandsAreIdempotent := by
  intro tr s htr
  cases tr with
  | read off size =>
    obtain ⟨a, ha⟩ := serve_read_eq_respond off size s
    exact ⟨_, ha, (serve_read_respond off size _ s).trans ha⟩
  | write off size v =>
    cases hc : checkAccess off size with
    | none =>
      exact ⟨_, serve_write_of_checkAccess_eq_none v s hc, serve_write_of_checkAccess_eq_none v _ hc⟩
    | some r =>
      obtain ⟨rfl, rfl⟩ := of_checkAccess_eq_some hc
      have hr : r ≠ .cmd := fun hr => htr v (hr ▸ rfl)
      obtain ⟨hro, -⟩ | ⟨-, t, hw⟩ := writeReg_cases r v s
      · exact ⟨_, serve_write_readOnly hro .word v s, serve_write_readOnly hro .word v _⟩
      · refine ⟨t.respond (some .okay), ?_, ?_⟩
        · simp [serve_write_regOffset, hw]
        · simp only [serve_write_regOffset, writeReg_again hr _ hw]
          rfl

/-! ### The port (20_memory.md R70, R71, R93; 70_reset_and_hazards.md R290) -/

/-- Every transfer ends with a response. -/
theorem serve_responds (tr : Transfer) (s : State) :
    ∃ t r, serve tr s = .next t ∧ t.response = some r := by
  obtain ⟨r, h⟩ | ⟨-, -, t, -, -, h⟩ := serve_cases tr s
  exacts [⟨_, r, h, rfl⟩, ⟨_, .okay, h, rfl⟩]

/-- A response is acknowledged. -/
theorem ack_portOut (n : Nat) (r : Response) : (portOut n (some r)).ack = true := by
  cases r <;> rfl

/-- Outside reset, with `rst_n` high, an edge is an edge of the running port. -/
theorem edge_running (latency : State → Transfer → Nat) {p : PortState} {i : PortIn}
    (hreset : p.inReset = false) (hrst : i.rstN = true) : edge latency p i = edgeRunning latency p i := by
  simp [edge, leaveReset, hreset, hrst]

/-- With no transfer in progress an edge only starts one, if one is asked for. -/
theorem edgeRunning_idle (latency : State → Transfer → Nat) {p : PortState} (i : PortIn)
    (hbusy : p.busy = none) :
    ∃ busy, edgeRunning latency p i = .next (noAck { p with busy := busy }) := by
  obtain ⟨regs, inReset, busy, n⟩ := p
  obtain rfl : busy = none := hbusy
  cases hreq : i.req with
  | true => exact ⟨_, by simp only [edgeRunning, hreq, if_true]; rfl⟩
  | false => exact ⟨none, by simp [edgeRunning, hreq]⟩

theorem runEdges_cons {latency : State → Transfer → Nat} {p q r : PortState} {i : PortIn}
    {is : List PortIn} {o : PortOut} {os : List PortOut} (hedge : edge latency p i = .next (q, o))
    (hrun : runEdges latency q is = .next (r, os)) :
    runEdges latency p (i :: is) = .next (r, o :: os) := by
  simp [runEdges, hedge, hrun]

/-- A transfer in progress, with `k` edges to pass before its last: none of them acknowledges, and the last
gives the atomic transfer's response and state. -/
theorem runEdges_busy (latency : State → Transfer → Nat) {i : PortIn} (hrst : i.rstN = true)
    {tr : Transfer} {s t : State} (hs : serve tr s = .next t) (k n : Nat) :
    ∃ outs : List PortOut, outs.length = k ∧ (∀ o ∈ outs, o.ack = false) ∧
      runEdges latency ⟨s, false, some (tr, k), n⟩ (List.replicate (k + 1) i) =
        .next (⟨t, false, none, n + k + 1⟩, outs ++ [portOut (n + k) t.response]) := by
  induction k generalizing n with
  | zero =>
    have hlast : edge latency ⟨s, false, some (tr, 0), n⟩ i =
        .next (⟨t, false, none, n + 1⟩, portOut n t.response) := by
      simp [edge_running latency (p := ⟨s, false, some (tr, 0), n⟩) rfl hrst, edgeRunning, hs]
    exact ⟨[], rfl, nofun, runEdges_cons hlast rfl⟩
  | succ k ih =>
    obtain ⟨outs, hlen, hack, hrun⟩ := ih (n + 1)
    have hwait : edge latency ⟨s, false, some (tr, k + 1), n⟩ i =
        .next (⟨s, false, some (tr, k), n + 1⟩, portOut n none) := edge_running latency rfl hrst
    refine ⟨portOut n none :: outs, congrArg (· + 1) hlen, List.forall_mem_cons.mpr ⟨rfl, hack⟩, ?_⟩
    rw [List.replicate_succ, runEdges_cons hwait hrun]
    have hn : n + 1 + k = n + (k + 1) := by omega
    rw [hn]
    rfl

/-- Settles O46: the first edge starts the transfer, which then has `L - 1` edges to wait. -/
theorem portRefinesTheAtomicTransfer : Obligations.PortRefinesTheAtomicTransfer := by
  rintro latency ⟨s, inReset, busy, n⟩ i L rfl rfl hrst hreq hL
  obtain ⟨t, r, hs, hr⟩ := serve_responds (transferOfPins i) s
  obtain ⟨k, rfl⟩ : ∃ k, L = k + 1 := ⟨L - 1, by omega⟩
  have hk : latency s (transferOfPins i) - 1 = k := by
    have hL : k + 1 = max 1 (latency s (transferOfPins i)) := hL
    omega
  have hstart : edge latency ⟨s, false, none, n⟩ i =
      .next (⟨s, false, some (transferOfPins i, k), n + 1⟩, portOut n none) := by
    simp [edge_running latency (p := ⟨s, false, none, n⟩) rfl hrst, edgeRunning, hreq, hk, noAck]
  obtain ⟨outs, hlen, hack, hrun⟩ := runEdges_busy latency hrst hs k (n + 1)
  have hn : n + 1 + k = n + (k + 1) := by omega
  rw [hn] at hrun
  exact ⟨t, portOut n none :: outs, hs, runEdges_cons hstart hrun, congrArg (· + 1) hlen,
    List.forall_mem_cons.mpr ⟨rfl, hack⟩, hr ▸ ack_portOut _ r⟩

/-- Settles O47: an edge in reset holds no transfer, so the edge that leaves reset has none to answer. -/
theorem portAbandonsTransfersInReset : Obligations.PortAbandonsTransfersInReset := by
  intro latency p i i' hrst hrst'
  have hlow : edge latency p i = .next (noAck { p with inReset := true, busy := none }) := by
    simp [edge, hrst]
  have hhigh (q : PortState) : edge latency q i' = edgeRunning latency (leaveReset q) i' := by
    simp [edge, hrst']
  obtain ⟨busy, hidle⟩ := edgeRunning_idle latency i'
    (p := leaveReset (noAck { p with inReset := true, busy := none }).1) rfl
  exact ⟨_, _, _, _, hlow, rfl, rfl, (hhigh _).trans hidle, rfl,
    ⟨rfl, rfl, rfl, rfl, rfl, rfl, rfl, rfl, rfl, rfl, rfl, rfl, rfl⟩, rfl⟩

end Sys2Proof.Machine

namespace Sys2Proof

/-! ### The platform's address decoder (20_memory.md R72) -/

/-- Settles O48: a distance below 256 is an offset, and no other number is. -/
theorem platformDecoderSelectsTheWindow : Obligations.PlatformDecoderSelectsTheWindow := by
  intro coreBase addr off
  have hval : ∀ d < 256, (BitVec.ofNat 8 d).toNat = d := fun d hd => Nat.mod_eq_of_lt hd
  unfold Config.offsetAt Config.windowBytes
  constructor
  · intro h
    obtain ⟨hwin, hoff⟩ := Option.ite_none_right_eq_some.mp h
    obtain rfl : BitVec.ofNat 8 (addr - coreBase) = off := Option.some.inj hoff
    exact ⟨hwin.1, by omega, hval _ (by omega)⟩
  · rintro ⟨hlow, hhigh, hoff⟩
    rw [if_pos ⟨hlow, by omega⟩, ← Machine.eq_ofNat_of_toNat_eq hoff]

end Sys2Proof

namespace Sys2Proof.Machine

/-! ### Host programs served one statement per step (20_memory.md R86, 30_encoding.md R109) -/

theorem run_succ {s t : State} (h : step s = .next t) (n : Nat) :
    Host.Core.run core (n + 1) s = Host.Core.run core n t := by
  have hcore : core.step s = .next t := h
  simp only [Host.Core.run, hcore]

theorem run_add {m : Nat} {s t : State} (h : Host.Core.run core m s = .next t) (n : Nat) :
    Host.Core.run core (m + n) s = Host.Core.run core n t := by
  induction m generalizing s with
  | zero =>
    have hst : (.next s : Result) = .next t := h
    cases hst
    rw [Nat.zero_add]
  | succ m ih =>
    obtain ⟨u, hu⟩ := everyStepAnswersANextState s
    rw [run_succ hu] at h
    rw [Nat.add_right_comm, run_succ hu, ih h]

theorem length_hostEvents (p : List HostStatement) : (hostEvents p).length = p.length := List.length_map _

/-- Served one per step, the statements `p` lead from `s` to `t`, whatever the host does after them. -/
def Reaches (p : List HostStatement) (s t : State) : Prop :=
  ∀ rest, Host.Core.run core p.length (s.setPending (hostEvents p ++ rest)) = .next (t.setPending rest)

theorem Reaches.nil (s : State) : Reaches [] s s := fun _ => rfl

theorem Reaches.append {p q : List HostStatement} {s t u : State} (h : Reaches p s t)
    (h' : Reaches q t u) : Reaches (p ++ q) s u := by
  intro rest
  rw [hostEvents, List.map_append, List.append_assoc, List.length_append]
  exact (run_add (h _) _).trans (h' rest)

/-- One statement leads to what its transfer does, which reads no pending event. -/
theorem Reaches.single {st : HostStatement} {s t : State}
    (h : ∀ rest, serve (transferOf st) (s.setPending rest) = .next (t.setPending rest)) :
    Reaches [st] s t := by
  intro rest
  have hstep : step (s.setPending (hostEvents [st] ++ rest)) = .next (t.setPending rest) := h rest
  exact run_succ hstep 0

/-- A loop of single statements leads through the fold of what each does. -/
theorem Reaches.map {ι : Type} {st : ι → HostStatement} {f : State → ι → State}
    (h : ∀ s j, Reaches [st j] s (f s j)) (l : List ι) (s : State) :
    Reaches (l.map st) s (l.foldl f s) := by
  induction l generalizing s with
  | nil => exact .nil s
  | cons j l ih => exact (h s j).append (ih (f s j))

/-! ### setkey and setblock (30_encoding.md R110) -/

/-- What the write of word `j` of the key does. -/
def writeKeyWord (k : List Byte) (s : State) (j : Fin 8) : State :=
  (s.setKey j (wordAt k j.val)).invalidate.respond (some .okay)

/-- What the write of column `c` of the block does. -/
def writeColumn (p : List Byte) (s : State) (c : Fin 4) : State :=
  (s.setBlock (Block.setColumn s.block c (wordAt p c.val))).respond (some .okay)

/-- The words of the key, in the order in which setkey writes them. -/
def keyWords (k : List Byte) : List (Fin 8) := (List.finRange 8).filter fun j => j.val < k.length / 4

/-- What setkey does. -/
def loadKey (k : List Byte) (s : State) : State :=
  (keyWords k).foldl (writeKeyWord k)
    ((s.setKeyLen (BitVec.ofNat 8 k.length)).invalidate.respond (some .okay))

/-- What setblock does. -/
def loadBlock (p : List Byte) (s : State) : State :=
  [0, 1, 2, 3].foldl (writeColumn p) ((s.setBlkLen 16).respond (some .okay))

theorem setkey_eq_map (k : List Byte) : setkey k =
    [HostStatement.wr (regOffset .keyLen) (BitVec.ofNat 32 k.length)] ++
      (keyWords k).map fun j => HostStatement.wr (regOffset (.key j)) (wordAt k j.val) := by
  rw [setkey, keyWords, ← List.filterMap_eq_map, List.filterMap_filter]
  simp

theorem reaches_writeKeyLen (k : List Byte) (s : State) :
    Reaches [.wr (regOffset .keyLen) (BitVec.ofNat 32 k.length)] s
      ((s.setKeyLen (BitVec.ofNat 8 k.length)).invalidate.respond (some .okay)) := by
  have hlen : (BitVec.ofNat 32 k.length).extractLsb' 0 8 = BitVec.ofNat 8 k.length := by
    rw [extractLsb'_eq_iff, BitVec.toNat_ofNat, BitVec.toNat_ofNat]
    omega
  rw [← hlen]
  exact .single fun rest => serve_write_regOffset .keyLen _ (s.setPending rest)

theorem reaches_writeKeyWord (k : List Byte) (s : State) (j : Fin 8) :
    Reaches [.wr (regOffset (.key j)) (wordAt k j.val)] s (writeKeyWord k s j) :=
  .single fun rest => serve_write_regOffset (.key j) _ (s.setPending rest)

theorem reaches_setkey (k : List Byte) (s : State) : Reaches (setkey k) s (loadKey k s) := by
  rw [setkey_eq_map]
  exact (reaches_writeKeyLen k s).append (.map (reaches_writeKeyWord k) (keyWords k) _)

theorem reaches_writeBlkLen (s : State) :
    Reaches [.wr (regOffset .blkLen) 16] s ((s.setBlkLen 16).respond (some .okay)) :=
  .single fun rest => serve_write_regOffset .blkLen 16 (s.setPending rest)

theorem reaches_writeColumn (p : List Byte) (s : State) (c : Fin 4) :
    Reaches [.wr (regOffset (.state c)) (wordAt p c.val)] s (writeColumn p s c) :=
  .single fun rest => serve_write_regOffset (.state c) _ (s.setPending rest)

theorem reaches_setblock (p : List Byte) (s : State) : Reaches (setblock p) s (loadBlock p s) :=
  (reaches_writeBlkLen s).append (.map (reaches_writeColumn p) [0, 1, 2, 3] _)

/-! ### What the two leave in the registers -/

/-- The words written are those of `k`, and the others stay. -/
theorem foldl_writeKeyWord_key (k : List Byte) (l : List (Fin 8)) (s : State) (j : Fin 8) :
    (l.foldl (writeKeyWord k) s).key[j] = if j ∈ l then wordAt k j.val else s.key[j] := by
  induction l generalizing s with
  | nil => rfl
  | cons i l ih =>
    have hset : (writeKeyWord k s i).key[j] = if j = i then wordAt k i.val else s.key[j] := by
      change (s.key.set i (wordAt k i.val))[j.val] = _
      rw [Vector.getElem_set]
      simp [Fin.ext_iff, eq_comm]
    rw [List.foldl_cons, ih, hset]
    by_cases hl : j ∈ l
    · simp [hl]
    · by_cases hji : j = i <;> simp [hl, hji]

theorem foldl_writeKeyWord_keyLen (k : List Byte) (l : List (Fin 8)) (s : State) :
    (l.foldl (writeKeyWord k) s).keyLen = s.keyLen := by
  induction l generalizing s with
  | nil => rfl
  | cons i l ih => exact ih (writeKeyWord k s i)

theorem loadKey_keyLen (k : List Byte) (s : State) : (loadKey k s).keyLen = BitVec.ofNat 8 k.length :=
  foldl_writeKeyWord_keyLen k _ _

theorem loadKey_key (k : List Byte) (s : State) {j : Fin 8} (hj : j.val < k.length / 4) :
    (loadKey k s).key[j] = wordAt k j.val := by
  rw [loadKey, foldl_writeKeyWord_key, if_pos (by simpa [keyWords] using hj)]

/-- The columns written are those of `p`, and the others stay. -/
theorem column_foldl_writeColumn (p : List Byte) (l : List (Fin 4)) (s : State) (c : Fin 4) :
    Block.column (l.foldl (writeColumn p) s).block c =
      if c ∈ l then wordAt p c.val else Block.column s.block c := by
  induction l generalizing s with
  | nil => rfl
  | cons d l ih =>
    have hset : Block.column (writeColumn p s d).block c =
        if c = d then wordAt p d.val else Block.column s.block c := by
      split
      · next h => exact h ▸ Block.column_setColumn_self s.block c _
      · next h => exact Block.column_setColumn_other s.block _ h
    rw [List.foldl_cons, ih, hset]
    by_cases hl : c ∈ l
    · simp [hl]
    · by_cases hcd : c = d <;> simp [hl, hcd]

theorem foldl_writeColumn_frame (p : List Byte) (l : List (Fin 4)) (s : State) :
    (l.foldl (writeColumn p) s).key = s.key ∧ (l.foldl (writeColumn p) s).keyLen = s.keyLen ∧
    (l.foldl (writeColumn p) s).blkLen = s.blkLen := by
  induction l generalizing s with
  | nil => exact ⟨rfl, rfl, rfl⟩
  | cons c l ih => exact ih (writeColumn p s c)

/-- setblock leaves the key and sets BLKLEN. -/
theorem loadBlock_frame (p : List Byte) (s : State) : (loadBlock p s).key = s.key ∧
    (loadBlock p s).keyLen = s.keyLen ∧ (loadBlock p s).blkLen = 16#8 :=
  foldl_writeColumn_frame p _ _

theorem column_loadBlock (p : List Byte) (s : State) (c : Fin 4) :
    Block.column (loadBlock p s).block c = wordAt p c.val := by
  rw [loadBlock, column_foldl_writeColumn, if_pos (by revert c; decide)]

theorem byteOf_wordAt (p : List Byte) (j : Nat) (r : Fin 4) :
    byteOf (wordAt p j) r = p.getD (4 * j + r.val) 0 := by
  fin_cases r
  exacts [byteOf_wordOf_zero _ _ _ _, byteOf_wordOf_one _ _ _ _, byteOf_wordOf_two _ _ _ _,
    byteOf_wordOf_three _ _ _ _]

/-- Block byte n is byte n of `p` (10_state.md R37). -/
theorem blockByte_loadBlock (p : List Byte) (s : State) (n : Fin 16) :
    Block.blockByte (loadBlock p s).block n = p.getD n.val 0 := by
  rw [Block.blockByte, ← Block.byteOf_column, column_loadBlock, byteOf_wordAt, Nat.div_add_mod]

/-! ### The boot sequence (70_reset_and_hazards.md R293) -/

/-- The CMD write of ENCRYPT, with legal lengths. -/
theorem reaches_encrypt {s : State} {v : Variant} (hv : selectVariant s.keyLen = some v)
    (hblk : s.blkLen = 16#8) : Reaches [.cmd .encrypt] s ((withSchedule v (schedule s.key v) s
      (cipher (schedule s.key v) v.nr s.block)).respond (some .okay)) := by
  refine .single fun rest => ?_
  have hexec : exec .encrypt (s.setPending rest) = .next (withSchedule v (schedule s.key v)
      (s.setPending rest) (cipher (schedule s.key v) v.nr s.block)) :=
    runCipher_eq_withSchedule cipher (s := s.setPending rest) hv hblk
  have hpending (w : Store) (b : Block) : (withSchedule v w (s.setPending rest) b).respond (some .okay) =
      ((withSchedule v w s b).respond (some .okay)).setPending rest := rfl
  calc serve (commandTransfer (encode .encrypt)) (s.setPending rest)
    _ = onNext (execute (encode .encrypt) (s.setPending rest)) (State.respond (some .okay)) :=
      serve_commandTransfer _ _
    _ = onNext (exec .encrypt (s.setPending rest)) (State.respond (some .okay)) := by
      rw [execute_of_command (decodeInvertsEncode .encrypt rfl)]
    _ = _ := by rw [hexec, onNext_next, hpending]

/-- A key of 16, 24 or 32 bytes selects the variant with its number of words. -/
theorem exists_variant_of_length {n : Nat} (h : n = 16 ∨ n = 24 ∨ n = 32) :
    ∃ v : Variant, selectVariant (BitVec.ofNat 8 n) = some v ∧ 4 * v.nk = n := by
  obtain rfl | rfl | rfl := h
  exacts [⟨.aes128, rfl, rfl⟩, ⟨.aes192, rfl, rfl⟩, ⟨.aes256, rfl, rfl⟩]

/-- Settles O49: setkey, setblock and ENCRYPT are served one after the other, and the registers they leave
are read off `loadKey`, `loadBlock` and the outcome of the cipher command. -/
theorem bootSequenceEncryptsTheBlock : Obligations.BootSequenceEncryptsTheBlock := by
  rintro k p s events hk - rfl
  obtain ⟨v, hv, hnk⟩ := exists_variant_of_length hk
  obtain ⟨hkey, hkeyLen, hblkLen⟩ := loadBlock_frame p (loadKey k s)
  have hblock := blockByte_loadBlock p (loadKey k s)
  have hload := (reaches_setkey k s).append (reaches_setblock p (loadKey k s))
  generalize loadBlock p (loadKey k s) = u at hkey hkeyLen hblkLen hblock hload
  have hencrypt := reaches_encrypt (s := u) (v := v) (by rw [hkeyLen, loadKey_keyLen, hv]) hblkLen
  obtain ⟨w, hw⟩ : ∃ w, schedule u.key v = w := ⟨_, rfl⟩
  rw [hw] at hencrypt
  have hrun := hload.append hencrypt []
  rw [List.append_nil, ← length_hostEvents] at hrun
  refine ⟨_, v, u.block, hrun, hnk, fun j hj => ?key, hblock, ?cipher, ?errCode, ?sv, rfl⟩
  case key =>
    have hj : j.val < k.length / 4 := by omega
    rw [State.setPending_key, State.respond_key, withSchedule_key, hkey, loadKey_key k s hj]
  case cipher =>
    rw [State.setPending_block, State.respond_block, withSchedule_block, State.setPending_key,
      State.respond_key, withSchedule_key, hw]
  case errCode => rw [State.setPending_errCode, State.respond_errCode, withSchedule_errCode]
  case sv => rw [State.setPending_sv, State.respond_sv, withSchedule_sv]

end Sys2Proof.Machine
end
